-- ==== Sys2Proof/Word.lean ====
section
/-! DEFINITION. The plain value types of the VP320: bytes, words, sequence numbers and the numbers of
sources, lines, soft sources and note slots (spec/00 "Key figures"); one received character (R88) and
one access of the local bus (R178). -/

namespace Sys2Proof

/-- An 8-bit character or field (R88, R94). -/
abbrev Byte := BitVec 8

/-- A 32-bit register value (R178). -/
abbrev Word := BitVec 32

/-- A sequence number, 0 to 63; its arithmetic is modulo 64 (R94, R124). -/
abbrev SeqNum := BitVec 6

/-- A source number, 0 to 39 (R17). -/
abbrev SourceId := Fin 40

/-- The number of an EV line, 0 to 31, and of the line source it feeds (R1). -/
abbrev LineId := Fin 32

/-- A soft source counted from source 32: soft source `k` is source `32 + k` (R10). -/
abbrev SoftId := Fin 8

/-- An outbound note slot, 0 to 3 (R158). -/
abbrev SlotId := Fin 4

/-- The bits of one received character: data, parity bit and stop bit (R88, R90). -/
structure RxChar where
  /-- data bits, received least significant bit first -/
  data : Byte
  /-- parity bit as received -/
  parity : Bool
  /-- stop bit as received -/
  stop : Bool
deriving DecidableEq, Repr

/-- One access of the local bus: a full 32-bit word at an 8-bit byte address (R178). -/
inductive Access where
  | read (addr : Byte)
  | write (addr : Byte) (value : Word)
deriving DecidableEq, Repr

end Sys2Proof
end

