-- ==== Sys2Proof/Config.lean ====
section
/-! DEFINITION. What is fixed for every VP320 (key figures, timing symbols, code points) and the one
free value of the model. Times are in periods of REFCLK, 25 MHz, 40 ns each (spec/00, "System
placement"). -/

namespace Sys2Proof.Config

/-- Periods of REFCLK in one microsecond. -/
def perMicrosecond : Nat := 25

/-- The timebase of every timer: 10 µs (spec/00, "Timers"). -/
def timebase : Nat := 10 * perMicrosecond

/-- tHOLD of HOLD 1: 100 µs (R20). -/
def holdUnit : Nat := 100 * perMicrosecond

/-- tACK of TACK 1: 20 µs (R131). -/
def ackUnit : Nat := 20 * perMicrosecond

/-- tGREET, 1 ms (R84). -/
def greetInterval : Nat := 1000 * perMicrosecond

/-- tGREET_MAX, 64 ms (R113). -/
def greetMax : Nat := 64000 * perMicrosecond

/-- tRESTART, 20 ms (R119). -/
def restartDelay : Nat := 20000 * perMicrosecond

/-- Length of a break sent, tBRK, in bit times (R91). -/
def breakBits : Nat := 32

/-- Bit times of low line after which a break is detected (R92). -/
def breakDetectBits : Nat := 24

/-- Bit times of idle line inside a frame that end it as bad (R101). -/
def gapBits : Nat := 22

/-- The level of the transmit pair when nothing is sent: 1, high (R88). -/
def restLevel : Bool := true

/-- The SYNC character (R88). -/
def syncChar : Byte := 0xD2#8

/-- The SOF character (R88). -/
def sofChar : Byte := 0xA9#8

/-- Largest frame payload (R94). -/
def maxPayload : Nat := 27

/-- Largest agreed window (R106). -/
def maxWindow : Nat := 8

/-- Records of the inbound note FIFO (R166). -/
def fifoSize : Nat := 4

/-- Replies of the Reply Queue (R169). -/
def replyQueueSize : Nat := 2

/-- Consecutive bad frames that are reported as LINE_ERRORS (R105). -/
def badRunLimit : Nat := 8

/-- Good SYNC characters in a row that bring the link into GREETING (R110). -/
def syncsWanted : Nat := 4

/-- Link protocol revision carried in HELLO (R98, R179). -/
def linkRevision : Byte := 2#8

/-- Role of the device in HELLO (R97). -/
def roleDevice : Byte := 1#8

/-- Role of the collector in HELLO (R97). -/
def roleCollector : Byte := 2#8

/-- The value of ID (R179). -/
def idValue : Word := 0x7E200001#32

/-- FREE VALUE. The place a source takes among the sources that one MASK_CLR write appends to one
class: lower keys are appended first. The manual fixes no such order (R29, R70), so the function has
no body. The first argument is the model's counter of such writes. Assumption log 8. -/
opaque freeKey : Nat → Nat → Nat

end Sys2Proof.Config
end

