-- ==== Sys2Proof/Syntax.lean ====
section
/-! DEFINITION. The commands of the VP320: one constructor for each row of spec/opcode_table.json, in
the table's order. The table gives no operands; those here are what each command's rule says it
carries. -/

namespace Sys2Proof

/-- A command: one whole and indivisible step of the device (spec/95). -/
inductive Instr where
  /-- OBSERVED_LINE_CHANGE (R1 to R3): the level of an EV pin, as observed, becomes `level`. -/
  | observedLineChange (line : LineId) (level : Bool)
  /-- STABILITY_INTERVAL_EXPIRY (R3). -/
  | stabilityIntervalExpiry (line : LineId)
  /-- SRC_INDEX_WRITE (R21). -/
  | srcIndexWrite (value : Word)
  /-- SRC_CONFIG_WRITE (R24 to R27). -/
  | srcConfigWrite (value : Word)
  /-- MASK_SET_LO (R29). -/
  | maskSetLo (value : Word)
  /-- MASK_SET_HI (R29). -/
  | maskSetHi (value : Word)
  /-- MASK_CLR_LO (R29). -/
  | maskClrLo (value : Word)
  /-- MASK_CLR_HI (R29). -/
  | maskClrHi (value : Word)
  /-- SOFT_RAISE (R11, R12). -/
  | softRaise (value : Word)
  /-- SOFT_LOWER (R11, R13). -/
  | softLower (value : Word)
  /-- FORCE_IDLE (R34), with the operand of the CMD write. -/
  | forceIdle (operand : Byte)
  /-- TABLE_CLEAR (R36); the operand is ignored (R180). -/
  | tableClear (operand : Byte)
  /-- NOTE_SEND (R160); the operand is ignored. -/
  | noteSend (operand : Byte)
  /-- NOTE_POP (R168); the operand is ignored. -/
  | notePop (operand : Byte)
  /-- NOTE_FLUSH (R163); the operand is ignored. -/
  | noteFlush (operand : Byte)
  /-- LINK_ENABLE (R107); the operand is ignored. -/
  | linkEnable (operand : Byte)
  /-- LINK_DISABLE (R108); the operand is ignored. -/
  | linkDisable (operand : Byte)
  /-- LINK_RESTART (R109); the operand is ignored. -/
  | linkRestart (operand : Byte)
  /-- STATS_CLEAR (R187); the operand is ignored. -/
  | statsClear (operand : Byte)
  /-- DEVICE_RESET (R189); the operand is ignored. -/
  | deviceReset (operand : Byte)
  /-- UNKNOWN_COMMAND (R180): a CMD write whose code names no command. -/
  | unknownCommand (code operand : Byte)
  /-- LINK_CFG_WRITE (R182). -/
  | linkCfgWrite (value : Word)
  /-- LINK_STATUS_READ (R183). -/
  | linkStatusRead
  /-- LINK_FAULT_READ (R121). -/
  | linkFaultRead
  /-- CAUSE_WRITE (R184). -/
  | causeWrite (value : Word)
  /-- CAUSE_EN_WRITE (R185). -/
  | causeEnWrite (value : Word)
  /-- REGISTER_WRITE (R178): a write to any other register, by its byte address. -/
  | registerWrite (addr : Byte) (value : Word)
  /-- RST_N driven low (R188). -/
  | rstN
  /-- POWER_UP (R188). -/
  | powerUp
  /-- RESET_END (R9, R188, R189). -/
  | resetEnd
  /-- CHARACTER (R90, R93): one character reported by the Link Receiver. -/
  | character (c : RxChar)
  /-- CHARACTER_GAP (R101). -/
  | characterGap
  /-- BREAK (R92): a break detected on the receive pair. -/
  | lineBreak
  /-- HELLO (R104, R112, R115): a good HELLO arrives. -/
  | hello (heard : Bool) (revision window epoch role : Byte)
  /-- ACK (R104, R127): a good ACK arrives. -/
  | ack (number : SeqNum)
  /-- NAK (R104, R129): a good NAK arrives. -/
  | nak (number : SeqNum)
  /-- COMPLETE (R104, R138, R148): a good COMPLETE arrives. -/
  | complete (seq : SeqNum) (oldest : Bool) (vector : Byte)
  /-- NOTE (R104, R138, R166): a good NOTE of 1 to 8 data bytes arrives. -/
  | note (seq : SeqNum) (tag : Byte) (data : List Byte)
  /-- CONTROL (R104, R138, R170): a good CONTROL arrives. -/
  | control (seq : SeqNum) (tag op first count : Byte)
  /-- FRAME_BOUNDARY (R76, R78, R84, R85). -/
  | frameBoundary
  /-- HOLDOFF_EXPIRY (R59). -/
  | holdoffExpiry (source : SourceId)
  /-- ACKNOWLEDGMENT_TIMER_EXPIRY (R132). -/
  | acknowledgmentTimerExpiry
  /-- GREETING_INTERVAL_EXPIRY (R84). -/
  | greetingIntervalExpiry
  /-- GREET_TIMEOUT (R113). -/
  | greetTimeout
  /-- RESTART_DELAY_EXPIRY (R119). -/
  | restartDelayExpiry
deriving DecidableEq, Repr

end Sys2Proof
end

