-- ==== Sys2Proof/Decode.lean ====
section
/-! DEFINITION. The table's words: no row of spec/opcode_table.json gives bits, so no word spells a
command. Beside it, the decoding of the local bus that spec/11 does give: which register a byte
address names (R178, section 11.2), which command a CMD write issues (R180), and which command an
access is. -/

namespace Sys2Proof

/-- The command a word of the opcode table spells: none, because no row gives bits. -/
def decodeTableWord (_nbits _w : Nat) : Option Instr := none

/-- The registers of the map of section 11.2, and the undefined offsets as one. -/
inductive Register where
  | id | srcIndex | srcConfig | srcStatus | maskLo | maskHi
  | maskSetLo | maskSetHi | maskClrLo | maskClrHi | softRaise | softLower
  | cmd | linkCfg | linkStatus | linkEpochs | linkFault
  | noteOutCtrl | noteOutData0 | noteOutData1 | noteInHead | noteInData0 | noteInData1
  | cause | causeEn | refuseInfo | unmatchedInfo | remoteInfo | resetCause
  | eventsSent | framesResent | badFrames | eventsWithdrawn
  | completionsUnmatched | inboundDuplicates | inboundDeferred | sessions
  | undefined
deriving DecidableEq, Repr

/-- The register at a byte address, of which bits 1 and 0 are ignored (R178; map of section 11.2). -/
def Register.ofAddr (addr : Byte) : Register :=
  match (addr.extractLsb' 2 6).toNat with
  | 0x00 => .id | 0x01 => .srcIndex | 0x02 => .srcConfig | 0x03 => .srcStatus
  | 0x04 => .maskLo | 0x05 => .maskHi | 0x06 => .maskSetLo | 0x07 => .maskSetHi
  | 0x08 => .maskClrLo | 0x09 => .maskClrHi | 0x0A => .softRaise | 0x0B => .softLower
  | 0x0C => .cmd | 0x0D => .linkCfg | 0x0E => .linkStatus | 0x0F => .linkEpochs
  | 0x10 => .linkFault | 0x11 => .noteOutCtrl | 0x12 => .noteOutData0 | 0x13 => .noteOutData1
  | 0x14 => .noteInHead | 0x15 => .noteInData0 | 0x16 => .noteInData1 | 0x17 => .cause
  | 0x18 => .causeEn | 0x19 => .refuseInfo | 0x1A => .unmatchedInfo | 0x1B => .remoteInfo
  | 0x1C => .resetCause
  | 0x20 => .eventsSent | 0x21 => .framesResent | 0x22 => .badFrames | 0x23 => .eventsWithdrawn
  | 0x24 => .completionsUnmatched | 0x25 => .inboundDuplicates | 0x26 => .inboundDeferred
  | 0x27 => .sessions
  | _ => .undefined

/-- The word of a CMD write: operand in bits 15 to 8, code in bits 7 to 0 (section 11.3). -/
def cmdWord (code operand : Byte) : Word := (0 : BitVec 16) ++ operand ++ code

/-- The code of a CMD write (R180). -/
def cmdCode (value : Word) : Byte := value.extractLsb' 0 8

/-- The operand of a CMD write (R180). -/
def cmdOperand (value : Word) : Byte := value.extractLsb' 8 8

/-- The command a code and operand written to CMD issue (R180). -/
def commandOfCode (code operand : Byte) : Instr :=
  match code.toNat with
  | 0x01 => .forceIdle operand
  | 0x02 => .tableClear operand
  | 0x03 => .noteSend operand
  | 0x04 => .notePop operand
  | 0x05 => .noteFlush operand
  | 0x06 => .linkEnable operand
  | 0x07 => .linkDisable operand
  | 0x08 => .linkRestart operand
  | 0x09 => .statsClear operand
  | 0x0A => .deviceReset operand
  | _ => .unknownCommand code operand

/-- The command a write to a register is (R178, R180). -/
def commandOfWrite (addr : Byte) (value : Word) : Instr :=
  match Register.ofAddr addr with
  | .srcIndex => .srcIndexWrite value
  | .srcConfig => .srcConfigWrite value
  | .maskSetLo => .maskSetLo value
  | .maskSetHi => .maskSetHi value
  | .maskClrLo => .maskClrLo value
  | .maskClrHi => .maskClrHi value
  | .softRaise => .softRaise value
  | .softLower => .softLower value
  | .cmd => commandOfCode (cmdCode value) (cmdOperand value)
  | .linkCfg => .linkCfgWrite value
  | .cause => .causeWrite value
  | .causeEn => .causeEnWrite value
  | _ => .registerWrite addr value

/-- The command an access is; a read other than of LINK_STATUS and LINK_FAULT changes no state and is
no command (R178). -/
def Access.command : Access → Option Instr
  | .write addr value => some (commandOfWrite addr value)
  | .read addr =>
    match Register.ofAddr addr with
    | .linkStatus => some .linkStatusRead
    | .linkFault => some .linkFaultRead
    | _ => none

/-- The access of the local bus that a command is, for those that are one (R178, R180). -/
def Instr.access : Instr → Option Access
  | .srcIndexWrite v => some (.write 0x04#8 v)
  | .srcConfigWrite v => some (.write 0x08#8 v)
  | .maskSetLo v => some (.write 0x18#8 v)
  | .maskSetHi v => some (.write 0x1C#8 v)
  | .maskClrLo v => some (.write 0x20#8 v)
  | .maskClrHi v => some (.write 0x24#8 v)
  | .softRaise v => some (.write 0x28#8 v)
  | .softLower v => some (.write 0x2C#8 v)
  | .forceIdle op => some (.write 0x30#8 (cmdWord 0x01#8 op))
  | .tableClear op => some (.write 0x30#8 (cmdWord 0x02#8 op))
  | .noteSend op => some (.write 0x30#8 (cmdWord 0x03#8 op))
  | .notePop op => some (.write 0x30#8 (cmdWord 0x04#8 op))
  | .noteFlush op => some (.write 0x30#8 (cmdWord 0x05#8 op))
  | .linkEnable op => some (.write 0x30#8 (cmdWord 0x06#8 op))
  | .linkDisable op => some (.write 0x30#8 (cmdWord 0x07#8 op))
  | .linkRestart op => some (.write 0x30#8 (cmdWord 0x08#8 op))
  | .statsClear op => some (.write 0x30#8 (cmdWord 0x09#8 op))
  | .deviceReset op => some (.write 0x30#8 (cmdWord 0x0A#8 op))
  | .unknownCommand code op => some (.write 0x30#8 (cmdWord code op))
  | .linkCfgWrite v => some (.write 0x34#8 v)
  | .linkStatusRead => some (.read 0x38#8)
  | .linkFaultRead => some (.read 0x40#8)
  | .causeWrite v => some (.write 0x5C#8 v)
  | .causeEnWrite v => some (.write 0x60#8 v)
  | .registerWrite addr v => some (.write addr v)
  | .observedLineChange _ _ => none
  | .stabilityIntervalExpiry _ => none
  | .rstN => none
  | .powerUp => none
  | .resetEnd => none
  | .character _ => none
  | .characterGap => none
  | .lineBreak => none
  | .hello _ _ _ _ _ => none
  | .ack _ => none
  | .nak _ => none
  | .complete _ _ _ => none
  | .note _ _ _ => none
  | .control _ _ _ _ _ => none
  | .frameBoundary => none
  | .holdoffExpiry _ => none
  | .acknowledgmentTimerExpiry => none
  | .greetingIntervalExpiry => none
  | .greetTimeout => none
  | .restartDelayExpiry => none

end Sys2Proof
end

