-- ==== Sys2Proof/Machine/State.lean ====
section
/-! DEFINITION. The state of the VP320, block by block as spec/00 lists the blocks, as plain data; its
value after reset; and the reasons a step could stop. -/

namespace Sys2Proof.Machine

/-- A timer or interval: stopped (`none`), or running since the moment held, in REFCLK periods of the
model's clock `State.now` (R1, R58, R106, R124). -/
abbrev Timer := Option Nat

/-! ### Line Sampler (spec/01) -/

/-- Per-line state of the Line Sampler (R1), with the level of the pin it watches. The qualified level
is a view, `State.qualified` (R4). -/
structure Line where
  /-- level of the EV pin -/
  pin : Bool
  observed : Bool
  accepted : Bool
  /-- stability interval -/
  interval : Timer
deriving DecidableEq, Repr

/-! ### Source Table and Holdoff Timers (spec/02, spec/03) -/

/-- SENSE (R17). -/
inductive Sense where
  | levelHigh | levelLow | rising | falling | anyEdge
deriving DecidableEq, Repr

/-- FILTER (R17). -/
inductive FilterSetting where
  | none | f2 | f20 | f200
deriving DecidableEq, Repr

/-- STATE of a source (R39). -/
inductive Delivery where
  | idle | queued | sent | delivered | holdoff
deriving DecidableEq, Repr

/-- One entry of the Source Table (R17) with its holdoff timer (R58). -/
structure Source where
  enable : Bool
  mask : Bool
  sense : Sense
  filter : FilterSetting
  vector : Byte
  dest : BitVec 4
  prio : Fin 4
  hold : Byte
  remote : Bool
  state : Delivery
  pending : Byte
  pendOvr : Bool
  holdoff : Timer
deriving DecidableEq, Repr

/-! ### Event Queue (spec/03, spec/04) -/

/-- An Event Message (R40). -/
structure Message where
  source : SourceId
  vector : Byte
  dest : BitVec 4
  prio : Fin 4
  count : Byte
  overrun : Bool
  level : Bool
  resent : Bool
deriving DecidableEq, Repr

/-- The Event Queue: four classes, each from front to back (R68, R69). -/
abbrev EventQueue := Vector (List Message) 4

/-! ### Note Unit (spec/09) -/

/-- A note: tag and 1 to 8 data bytes; its length is the number of bytes (R158, R166). -/
structure Note where
  tag : Byte
  data : List Byte
deriving DecidableEq, Repr

/-- An outbound note slot (R158). -/
inductive Slot where
  | free
  | waiting (note : Note)
  | inFlight (note : Note)
deriving DecidableEq, Repr

/-- The Note Unit: staging registers (R159), slots and waiting order (R158), inbound FIFO (R166). -/
structure NoteUnit where
  outTag : Byte
  outLength : BitVec 4
  outData0 : Word
  outData1 : Word
  slots : Vector Slot 4
  /-- WAITING slots, oldest first -/
  order : List SlotId
  /-- inbound records, head first -/
  fifo : List Note
deriving DecidableEq, Repr

/-! ### Control Responder (spec/10) -/

/-- Result of a Control request (R97, R169). -/
inductive ReplyResult where
  | ok | badRequest | badSource | notPermitted
deriving DecidableEq, Repr

/-- One record of a reply: a source as captured (R99, R169). -/
structure SourceRecord where
  source : SourceId
  state : Delivery
  mask : Bool
  enable : Bool
  level : Bool
  pending : Byte
deriving DecidableEq, Repr

/-- A reply; its k is the number of records (R169). -/
structure Reply where
  tag : Byte
  result : ReplyResult
  records : List SourceRecord
deriving DecidableEq, Repr

/-! ### Retransmit Window, Arbiter and Transmitter (spec/04, spec/07) -/

/-- The contents of a sequenced frame with its owner: the source in the message, the slot, or the
reply (R124, R125). -/
inductive Body where
  | event (message : Message)
  | note (slot : SlotId) (note : Note)
  | reply (reply : Reply)
deriving DecidableEq, Repr

/-- A frame record of the Retransmit Window (R124); the frame's bytes are `FrameRecord.bytes`. -/
structure FrameRecord where
  seq : SeqNum
  body : Body
deriving DecidableEq, Repr

/-- The Retransmit Window (R124). -/
structure Window where
  /-- oldest first -/
  records : List FrameRecord
  /-- next outbound sequence number -/
  next : SeqNum
  /-- retry count -/
  retry : Nat
  /-- acknowledgment timer -/
  timer : Timer
deriving DecidableEq, Repr

/-- The turn bit's two names (R77). -/
inductive Turn where
  | note | event
deriving DecidableEq, Repr

/-- The Transmit Arbiter (R77) and its greeting interval (R84). -/
structure Arbiter where
  turn : Turn
  ackDue : Option SeqNum
  nakDue : Option SeqNum
  /-- resend point: the sequence number of the record it names -/
  resend : Option SeqNum
  finalHelloDue : Bool
  helloDue : Bool
  greetInterval : Timer
deriving DecidableEq, Repr

/-- An item of the Link Transmitter (R76), its contents fixed when it was chosen. -/
inductive Item where
  | sync
  | brk
  | hello (heard : Bool) (window : BitVec 4) (epoch : Byte)
  | ack (number : SeqNum)
  | nak (number : SeqNum)
  | sequenced (record : FrameRecord)
deriving DecidableEq, Repr

/-! ### Link Receiver (spec/05, spec/07) -/

/-- A frame in COLLECT (R100). -/
structure Collecting where
  /-- characters received so far, SOF included -/
  received : Nat
  /-- LEN, absent until the fourth character -/
  len : Option Nat
  errorMark : Bool
  /-- values of the good characters after the SOF -/
  bytes : List Byte
deriving DecidableEq, Repr

/-- The Link Receiver: frame assembly, `none` in HUNT (R100); consecutive-bad-frame count (R105);
expected number E and NAK-sent memory (R137). -/
structure Receiver where
  assembly : Option Collecting
  badRun : Nat
  expected : SeqNum
  nakSent : Bool
deriving DecidableEq, Repr

/-! ### Session Controller (spec/06) -/

/-- Link state (R106). -/
inductive Link where
  | disabled | syncing | greeting | active | failed
deriving DecidableEq, Repr

/-- Fault cause (R116). -/
inductive FaultCause where
  | none | paramMismatch | greetTimeout | peerBreak | peerRestart | lineErrors | retryLimit
deriving DecidableEq, Repr

/-- The Session Controller (R106). -/
structure Session where
  link : Link
  syncCount : Nat
  localEpoch : Byte
  peerEpoch : Byte
  heard : Bool
  /-- agreed window, 0 or 1 to 8 -/
  agreed : BitVec 4
  greetTimeout : Timer
  restartDelay : Timer
  faultCause : FaultCause
  faultCount : Byte
deriving DecidableEq, Repr

/-! ### Register Window (spec/11) -/

/-- RATE (R89). -/
inductive Rate where
  | mbit2 | mbit5 | mbit10 | mbit20
deriving DecidableEq, Repr

/-- LINK_CFG (R182). -/
structure LinkCfg where
  auto : Bool
  retries : BitVec 4
  tack : Byte
  window : BitVec 4
  rate : Rate
deriving DecidableEq, Repr

/-- Reasons of REFUSE_INFO (R181). -/
inductive RefuseReason where
  | none | cfgBusy | badSource | badValue | notSoft | linkBusy | noteFull | empty
deriving DecidableEq, Repr

/-- REFUSE_INFO (R181). -/
structure RefuseInfo where
  request : Byte
  operand : BitVec 16
  reason : RefuseReason
deriving DecidableEq, Repr

/-- Reasons of UNMATCHED_INFO (R151). -/
inductive UnmatchedReason where
  | none | noMatch | listEmpty | badOldest
deriving DecidableEq, Repr

/-- UNMATCHED_INFO (R151). -/
structure UnmatchedInfo where
  vector : Byte
  oldest : Bool
  reason : UnmatchedReason
deriving DecidableEq, Repr

/-- Operations of REMOTE_INFO (R172). -/
inductive RemoteOp where
  | none | mask | unmask
deriving DecidableEq, Repr

/-- REMOTE_INFO (R172). -/
structure RemoteInfo where
  source : SourceId
  op : RemoteOp
deriving DecidableEq, Repr

/-- RESET_CAUSE (R188, R189). -/
inductive ResetCause where
  | pin | command
deriving DecidableEq, Repr

/-- The statistics counters (R186). -/
structure Stats where
  eventsSent : Word
  framesResent : Word
  badFrames : Word
  eventsWithdrawn : Word
  completionsUnmatched : Word
  inboundDuplicates : Word
  inboundDeferred : Word
  sessions : Word
deriving DecidableEq, Repr

/-- The Register Window's own state (spec/11). -/
structure Registers where
  /-- SRC_INDEX (R21) -/
  srcIndex : SourceId
  linkCfg : LinkCfg
  /-- LINK_EPOCHS, local epoch as captured (R183) -/
  epochLocal : Byte
  /-- LINK_EPOCHS, peer epoch as captured (R183) -/
  epochPeer : Byte
  /-- CAUSE, bit positions of section 11.3 (R184) -/
  cause : BitVec 8
  /-- CAUSE_EN (R185) -/
  causeEn : BitVec 8
  refuse : RefuseInfo
  unmatched : UnmatchedInfo
  remote : RemoteInfo
  resetCause : ResetCause
  stats : Stats
deriving DecidableEq, Repr

/-- The local bus (R178): accesses that wait for the end of a device reset (R188), the ready line, and
the data of the latest read. -/
structure Bus where
  /-- oldest first -/
  waiting : List Access
  ready : Bool
  readData : Word
deriving DecidableEq, Repr

/-! ### The machine -/

/-- The whole state. `pending`, `now` and `freeCount` are the model's own: the queue of commands, the
clock the timers' moments refer to (assumption log 4), and the counter of the free order of appends
(assumption log 8). -/
structure State where
  /-- commands that wait, first in, first out -/
  pending : List Instr
  /-- REFCLK periods counted -/
  now : Nat
  /-- how many free orders have been used -/
  freeCount : Nat
  /-- the device reset in progress, with the cause it will record (R188, R189) -/
  resetting : Option ResetCause
  bus : Bus
  lines : Vector Line 32
  /-- soft level bits of sources 32 to 39 (R10) -/
  softLevels : Vector Bool 8
  sources : Vector Source 40
  queue : EventQueue
  /-- the Delivered List, oldest first (R146) -/
  delivered : List SourceId
  arbiter : Arbiter
  /-- the item in transmission; `none` is idle, the line high (R76) -/
  tx : Option Item
  window : Window
  receiver : Receiver
  session : Session
  notes : NoteUnit
  /-- the Reply Queue, head first (R169) -/
  replies : List Reply
  regs : Registers
deriving DecidableEq, Repr

/-! ### Reset values -/

/-- A line after reset: everything at the level of the pin, no interval (R9). -/
def Line.reset (pin : Bool) : Line :=
  { pin := pin, observed := pin, accepted := pin, interval := none }

/-- A source entry after reset (R17, R38). -/
def Source.reset : Source :=
  { enable := false, mask := true, sense := .levelHigh, filter := .none, vector := 0, dest := 0,
    prio := 0, hold := 0, remote := false, state := .idle, pending := 0, pendOvr := false,
    holdoff := none }

/-- The Note Unit after reset (R158, R159, R166). -/
def NoteUnit.reset : NoteUnit :=
  { outTag := 0, outLength := 0, outData0 := 0, outData1 := 0,
    slots := Vector.replicate 4 .free, order := [], fifo := [] }

/-- The Retransmit Window after reset (R124, R136). -/
def Window.reset : Window := { records := [], next := 0, retry := 0, timer := none }

/-- The Transmit Arbiter after reset (R77, R87). -/
def Arbiter.reset : Arbiter :=
  { turn := .note, ackDue := none, nakDue := none, resend := none, finalHelloDue := false,
    helloDue := false, greetInterval := none }

/-- The Link Receiver after reset (R100, R105, R137). -/
def Receiver.reset : Receiver :=
  { assembly := none, badRun := 0, expected := 0, nakSent := false }

/-- The Session Controller after reset (R106, R123). -/
def Session.reset : Session :=
  { link := .disabled, syncCount := 0, localEpoch := 0, peerEpoch := 0, heard := false, agreed := 0,
    greetTimeout := none, restartDelay := none, faultCause := .none, faultCount := 0 }

/-- LINK_CFG after reset, 0x00043280 (section 11.2). -/
def LinkCfg.reset : LinkCfg :=
  { auto := false, retries := 4, tack := 50, window := 8, rate := .mbit2 }

/-- The statistics counters after reset and after STATS_CLEAR (R186, R187). -/
def Stats.zero : Stats :=
  { eventsSent := 0, framesResent := 0, badFrames := 0, eventsWithdrawn := 0,
    completionsUnmatched := 0, inboundDuplicates := 0, inboundDeferred := 0, sessions := 0 }

/-- The Register Window after a reset of the given cause (R190). -/
def Registers.reset (cause : ResetCause) : Registers :=
  { srcIndex := 0, linkCfg := LinkCfg.reset, epochLocal := 0, epochPeer := 0, cause := 0, causeEn := 0,
    refuse := { request := 0, operand := 0, reason := .none },
    unmatched := { vector := 0, oldest := false, reason := .none },
    remote := { source := 0, op := .none }, resetCause := cause, stats := Stats.zero }

/-- The machine right after a reset by RST_N or power-up has ended, with every EV line low.
DESIGN CHOICE (assumption log 4, 5, 6, 8): the pin levels, RDY, the read data, `now` and `freeCount`. -/
def State.reset : State :=
  { pending := [], now := 0, freeCount := 0, resetting := none,
    bus := { waiting := [], ready := false, readData := 0 },
    lines := Vector.replicate 32 (Line.reset false), softLevels := Vector.replicate 8 false,
    sources := Vector.replicate 40 Source.reset, queue := Vector.replicate 4 [], delivered := [],
    arbiter := Arbiter.reset, tx := none, window := Window.reset, receiver := Receiver.reset,
    session := Session.reset, notes := NoteUnit.reset, replies := [],
    regs := Registers.reset .pin }

/-! ### Reasons to stop -/

/-- Faults. There is none: the spec gives every command an effect in every state, so no step of the
model stops with a fault. -/
inductive Fault where
deriving DecidableEq, Repr

/-- Refusals of the MODEL (a request that the DEVICE refuses is a next state, R181). -/
inductive Refusal where
  /-- Raised by `exec` alone, for a command without a meaning; no arm raises it now. Safe: a claim about
  such a command is unprovable. -/
  | notModelled (mnemonic : String)
deriving DecidableEq, Repr

end Sys2Proof.Machine
end

