-- ==== Sys2Proof/Machine/Update.lean ====
section
/-! DEFINITION. The named updates of the state, one per block: every meaning changes the state through
them, so that Laws/State.lean can say once what each leaves alone. -/

namespace Sys2Proof.Machine.State

/-- The queue of commands. -/
def setPending (s : State) (v : List Instr) : State := { s with pending := v }

/-- The model's clock. -/
def setNow (s : State) (v : Nat) : State := { s with now := v }

/-- The counter of free orders used. -/
def setFreeCount (s : State) (v : Nat) : State := { s with freeCount := v }

/-- The device reset in progress. -/
def setResetting (s : State) (v : Option ResetCause) : State := { s with resetting := v }

/-- The local bus. -/
def setBus (s : State) (v : Bus) : State := { s with bus := v }

/-- One line of the Line Sampler. -/
def setLine (s : State) (n : LineId) (v : Line) : State := { s with lines := s.lines.set n.val v n.isLt }

/-- Every line of the Line Sampler. -/
def setLines (s : State) (v : Vector Line 32) : State := { s with lines := v }

/-- One soft level bit. -/
def setSoftLevel (s : State) (k : SoftId) (v : Bool) : State :=
  { s with softLevels := s.softLevels.set k.val v k.isLt }

/-- One source entry. -/
def setSrc (s : State) (n : SourceId) (v : Source) : State :=
  { s with sources := s.sources.set n.val v n.isLt }

/-- Every source entry. -/
def setSources (s : State) (v : Vector Source 40) : State := { s with sources := v }

/-- The Event Queue. -/
def setQueue (s : State) (v : EventQueue) : State := { s with queue := v }

/-- The Delivered List. -/
def setDelivered (s : State) (v : List SourceId) : State := { s with delivered := v }

/-- The Transmit Arbiter. -/
def setArbiter (s : State) (v : Arbiter) : State := { s with arbiter := v }

/-- The item in transmission. -/
def setTx (s : State) (v : Option Item) : State := { s with tx := v }

/-- The Retransmit Window. -/
def setWindow (s : State) (v : Window) : State := { s with window := v }

/-- The Link Receiver. -/
def setReceiver (s : State) (v : Receiver) : State := { s with receiver := v }

/-- The Session Controller. -/
def setSession (s : State) (v : Session) : State := { s with session := v }

/-- The Note Unit. -/
def setNotes (s : State) (v : NoteUnit) : State := { s with notes := v }

/-- The Reply Queue. -/
def setReplies (s : State) (v : List Reply) : State := { s with replies := v }

/-- The Register Window's own state. -/
def setRegs (s : State) (v : Registers) : State := { s with regs := v }

/-- The entry of a source. -/
def src (s : State) (n : SourceId) : Source := s.sources[n.val]

/-- The state of a line. -/
def line (s : State) (n : LineId) : Line := s.lines[n.val]

/-- The soft level bit of a soft source. -/
def softLevel (s : State) (k : SoftId) : Bool := s.softLevels[k.val]

end Sys2Proof.Machine.State
end

