-- ==== Sys2Proof/Machine/Flags.lean ====
section
/-! DEFINITION. Cause flags and IRQ_OUT_N (R184, R185), statistics counters (R186), and the reporting of
a refused request (R181). -/

namespace Sys2Proof.Machine

/-- The eight cause flags (R184). -/
inductive CauseFlag where
  | linkUp | linkDown | noteIn | noteSlot | unmatched | remoteAction | refused | overrun
deriving DecidableEq, Repr

/-- The position of a flag in CAUSE and CAUSE_EN (section 11.3). -/
def CauseFlag.bit : CauseFlag → Nat
  | .linkUp => 0
  | .linkDown => 1
  | .noteIn => 2
  | .noteSlot => 3
  | .unmatched => 4
  | .remoteAction => 5
  | .refused => 6
  | .overrun => 7

/-- The word with that flag alone. -/
def CauseFlag.mask (f : CauseFlag) : BitVec 8 := 1#8 <<< f.bit

/-- Whether a flag is set. -/
def State.flag (s : State) (f : CauseFlag) : Bool := s.regs.cause.getLsbD f.bit

/-- A flag is set by its block's event, whether or not it is already set (R184). -/
def State.raiseFlag (s : State) (f : CauseFlag) : State :=
  s.setRegs { s.regs with cause := s.regs.cause ||| f.mask }

/-- The level of the IRQ_OUT_N pin: low while a set flag is enabled (R185). -/
def State.irqOutN (s : State) : Bool := s.regs.cause &&& s.regs.causeEn = 0

/-- The statistics counters (R186). -/
inductive Counter where
  | eventsSent | framesResent | badFrames | eventsWithdrawn
  | completionsUnmatched | inboundDuplicates | inboundDeferred | sessions
deriving DecidableEq, Repr

/-- A 32-bit count increased by `n` that holds at its largest value (R186). -/
def saturate32 (v : Word) (n : Nat) : Word :=
  if v.toNat + n < 2 ^ 32 then BitVec.ofNat 32 (v.toNat + n) else BitVec.allOnes 32

/-- The value of a counter. -/
def Stats.get (t : Stats) : Counter → Word
  | .eventsSent => t.eventsSent
  | .framesResent => t.framesResent
  | .badFrames => t.badFrames
  | .eventsWithdrawn => t.eventsWithdrawn
  | .completionsUnmatched => t.completionsUnmatched
  | .inboundDuplicates => t.inboundDuplicates
  | .inboundDeferred => t.inboundDeferred
  | .sessions => t.sessions

/-- One counter increased by `n`. -/
def Stats.add (t : Stats) (n : Nat) : Counter → Stats
  | .eventsSent => { t with eventsSent := saturate32 t.eventsSent n }
  | .framesResent => { t with framesResent := saturate32 t.framesResent n }
  | .badFrames => { t with badFrames := saturate32 t.badFrames n }
  | .eventsWithdrawn => { t with eventsWithdrawn := saturate32 t.eventsWithdrawn n }
  | .completionsUnmatched => { t with completionsUnmatched := saturate32 t.completionsUnmatched n }
  | .inboundDuplicates => { t with inboundDuplicates := saturate32 t.inboundDuplicates n }
  | .inboundDeferred => { t with inboundDeferred := saturate32 t.inboundDeferred n }
  | .sessions => { t with sessions := saturate32 t.sessions n }

/-- The value of a counter of the machine. -/
def State.counter (s : State) (c : Counter) : Word := s.regs.stats.get c

/-- A counter counts `n` events (R186). -/
def State.countN (s : State) (n : Nat) (c : Counter) : State :=
  s.setRegs { s.regs with stats := s.regs.stats.add n c }

/-- A counter counts one event (R186). -/
def State.count (s : State) (c : Counter) : State := s.countN 1 c

/-- The requests that REFUSE_INFO can name (R181). -/
inductive Request where
  | forceIdle | tableClear | noteSend | notePop | linkRestart
  | unknown | srcIndex | srcConfig | softRaise | softLower | linkCfg
deriving DecidableEq, Repr

/-- The code of a request in REFUSE_INFO (R180, R181). -/
def Request.code : Request → Byte
  | .forceIdle => 0x01#8
  | .tableClear => 0x02#8
  | .noteSend => 0x03#8
  | .notePop => 0x04#8
  | .linkRestart => 0x08#8
  | .unknown => 0x0F#8
  | .srcIndex => 0x10#8
  | .srcConfig => 0x11#8
  | .softRaise => 0x12#8
  | .softLower => 0x13#8
  | .linkCfg => 0x14#8

/-- A written value as an operand of REFUSE_INFO: 65535 if it is greater (R181). -/
def clampOperand (value : Word) : BitVec 16 :=
  if value.toNat ≤ 65535 then value.setWidth 16 else 65535#16

/-- A refusal overwrites REFUSE_INFO and sets REFUSED, and changes nothing else (R181). -/
def State.refuse (s : State) (request : Request) (operand : BitVec 16) (reason : RefuseReason) : State :=
  (s.setRegs { s.regs with
    refuse := { request := request.code, operand := operand, reason := reason } }).raiseFlag .refused

end Sys2Proof.Machine
end

