-- ==== Sys2Proof/Machine/Operands.lean ====
section
/-! DEFINITION. The field layouts of section 11.3 and the codes of the link formats: every field of a
word written or read, and every code of a named value. -/

namespace Sys2Proof.Machine

/-! ### Codes -/

/-- SENSE code of SRC_CONFIG (section 11.3). -/
def Sense.code : Sense → BitVec 3
  | .levelHigh => 0
  | .levelLow => 1
  | .rising => 2
  | .falling => 3
  | .anyEdge => 4

/-- The sense a code names; 5 to 7 name none (R26). -/
def Sense.ofCode (c : BitVec 3) : Option Sense :=
  match c.toNat with
  | 0 => some .levelHigh
  | 1 => some .levelLow
  | 2 => some .rising
  | 3 => some .falling
  | 4 => some .anyEdge
  | _ => none

/-- Class LEVEL: the two level senses (R18). -/
def Sense.isLevel : Sense → Bool
  | .levelHigh | .levelLow => true
  | .rising | .falling | .anyEdge => false

/-- FILTER code of SRC_CONFIG (section 11.3). -/
def FilterSetting.code : FilterSetting → BitVec 2
  | .none => 0
  | .f2 => 1
  | .f20 => 2
  | .f200 => 3

/-- The filter setting a code names. -/
def FilterSetting.ofCode (c : BitVec 2) : FilterSetting :=
  match c.toNat with
  | 0 => .none
  | 1 => .f2
  | 2 => .f20
  | _ => .f200

/-- tFILT in REFCLK periods (spec/01, section 1.2). -/
def FilterSetting.time : FilterSetting → Nat
  | .none => 0
  | .f2 => 2 * Config.perMicrosecond
  | .f20 => 20 * Config.perMicrosecond
  | .f200 => 200 * Config.perMicrosecond

/-- STATE code (R39). -/
def Delivery.code : Delivery → BitVec 3
  | .idle => 0
  | .queued => 1
  | .sent => 2
  | .delivered => 3
  | .holdoff => 4

/-- Link state code (R106). -/
def Link.code : Link → BitVec 3
  | .disabled => 0
  | .syncing => 1
  | .greeting => 2
  | .active => 3
  | .failed => 4

/-- Fault cause code (R116). -/
def FaultCause.code : FaultCause → BitVec 3
  | .none => 0
  | .paramMismatch => 1
  | .greetTimeout => 2
  | .peerBreak => 3
  | .peerRestart => 4
  | .lineErrors => 5
  | .retryLimit => 6

/-- RATE code of LINK_CFG (section 11.3). -/
def Rate.code : Rate → BitVec 2
  | .mbit2 => 0
  | .mbit5 => 1
  | .mbit10 => 2
  | .mbit20 => 3

/-- The rate a code names (R182). -/
def Rate.ofCode (c : BitVec 2) : Rate :=
  match c.toNat with
  | 0 => .mbit2
  | 1 => .mbit5
  | 2 => .mbit10
  | _ => .mbit20

/-- The bit time in nanoseconds (R89). -/
def Rate.bitTime : Rate → Nat
  | .mbit2 => 500
  | .mbit5 => 200
  | .mbit10 => 100
  | .mbit20 => 50

/-- Reason code of REFUSE_INFO (R181). -/
def RefuseReason.code : RefuseReason → BitVec 4
  | .none => 0
  | .cfgBusy => 1
  | .badSource => 2
  | .badValue => 3
  | .notSoft => 4
  | .linkBusy => 5
  | .noteFull => 6
  | .empty => 7

/-- Reason code of UNMATCHED_INFO (R151). -/
def UnmatchedReason.code : UnmatchedReason → BitVec 2
  | .none => 0
  | .noMatch => 1
  | .listEmpty => 2
  | .badOldest => 3

/-- Op code of REMOTE_INFO (R172). -/
def RemoteOp.code : RemoteOp → BitVec 2
  | .none => 0
  | .mask => 1
  | .unmask => 2

/-- Cause code of RESET_CAUSE (section 11.3). -/
def ResetCause.code : ResetCause → BitVec 2
  | .pin => 1
  | .command => 2

/-- Result code of a REPLY (R97). -/
def ReplyResult.code : ReplyResult → Byte
  | .ok => 0
  | .badRequest => 1
  | .badSource => 2
  | .notPermitted => 3

/-- One bit as a field of width 1. -/
def bit1 (b : Bool) : BitVec 1 := BitVec.ofBool b

/-! ### Words written -/

/-- The fields of a SRC_CONFIG write (section 11.3); SENSE stays a code, since 5 to 7 name none. -/
structure ConfigWrite where
  hold : Byte
  vector : Byte
  dest : BitVec 4
  prio : Fin 4
  remote : Bool
  filter : FilterSetting
  senseCode : BitVec 3
  enable : Bool
deriving DecidableEq, Repr

/-- SRC_CONFIG: 31:24 HOLD; 23:16 VECTOR; 15:12 DEST; 9:8 PRIO; 6 REMOTE; 5:4 FILTER; 3:1 SENSE;
0 ENABLE (section 11.3). -/
def ConfigWrite.ofWord (w : Word) : ConfigWrite :=
  { hold := w.extractLsb' 24 8, vector := w.extractLsb' 16 8, dest := w.extractLsb' 12 4,
    prio := (w.extractLsb' 8 2).toFin, remote := w.getLsbD 6,
    filter := FilterSetting.ofCode (w.extractLsb' 4 2), senseCode := w.extractLsb' 1 3,
    enable := w.getLsbD 0 }

/-- SRC_CONFIG as read (R22, section 11.3). -/
def Source.configWord (e : Source) : Word :=
  e.hold ++ e.vector ++ e.dest ++ (0 : BitVec 2) ++ BitVec.ofNat 2 e.prio.val ++ (0 : BitVec 1) ++
    bit1 e.remote ++ e.filter.code ++ e.sense.code ++ bit1 e.enable

/-- LINK_CFG: 20 AUTO; 19:16 RETRIES; 15:8 TACK; 7:4 WINDOW; 1:0 RATE (section 11.3). -/
def LinkCfg.ofWord (w : Word) : LinkCfg :=
  { auto := w.getLsbD 20, retries := w.extractLsb' 16 4, tack := w.extractLsb' 8 8,
    window := w.extractLsb' 4 4, rate := Rate.ofCode (w.extractLsb' 0 2) }

/-- LINK_CFG as read (R182, section 11.3). -/
def LinkCfg.word (c : LinkCfg) : Word :=
  (0 : BitVec 11) ++ bit1 c.auto ++ c.retries ++ c.tack ++ c.window ++ (0 : BitVec 2) ++ c.rate.code

/-- The values a LINK_CFG write may hold: WINDOW 1 to 8, TACK and RETRIES not 0 (R182). -/
def LinkCfg.valid (c : LinkCfg) : Bool :=
  1 ≤ c.window.toNat && c.window.toNat ≤ 8 && c.tack != 0 && c.retries != 0

/-- NOTE_OUT_CTRL written: 11:8 length (section 11.3). -/
def noteCtrlLength (w : Word) : BitVec 4 := w.extractLsb' 8 4

/-- NOTE_OUT_CTRL written: 7:0 tag (section 11.3). -/
def noteCtrlTag (w : Word) : Byte := w.extractLsb' 0 8

/-! ### Note data words -/

/-- The four bytes of a data word, byte 1 (or 5) first: 7:0, 15:8, 23:16, 31:24 (section 11.3). -/
def dataBytes (w : Word) : List Byte :=
  [w.extractLsb' 0 8, w.extractLsb' 8 8, w.extractLsb' 16 8, w.extractLsb' 24 8]

/-- A data word from its four bytes, byte 1 (or 5) first; a position beyond the length reads 0 (R167). -/
def dataWord (bytes : List Byte) : Word :=
  bytes.getD 3 0 ++ bytes.getD 2 0 ++ bytes.getD 1 0 ++ bytes.getD 0 0

/-! ### Source numbers -/

/-- The source a written 32-bit value or an 8-bit operand names, if it is below 40 (R11, R21, R34). -/
def sourceOf (n : Nat) : Option SourceId := if h : n < 40 then some ⟨n, h⟩ else none

/-- The line source fed by a line: the source of the same number. -/
def lineSource (n : LineId) : SourceId := ⟨n.val, by omega⟩

/-- Soft source `k` of the eight: source 32 + k (R10). -/
def softSource (k : SoftId) : SourceId := ⟨32 + k.val, by omega⟩

/-- Every source in source order. -/
def allSources : List SourceId := List.finRange 40

/-- The sources of a LO write (0 to 31) whose bit is 1, in source order (R29). -/
def sourcesLo (w : Word) : List SourceId :=
  ((List.finRange 32).filter fun n => w.getLsbD n.val).map lineSource

/-- The sources of a HI write (32 to 39) whose bit is 1; the 24 upper bits are ignored (R29). -/
def sourcesHi (w : Word) : List SourceId :=
  ((List.finRange 8).filter fun k => w.getLsbD k.val).map softSource

end Sys2Proof.Machine
end

