-- ==== Sys2Proof/Machine/Ops.lean ====
section
/-! DEFINITION. The shared operations of the Event Queue (R68 to R73), the Line Sampler (R4 to R7) and
the Source Table (R23, R30, R31, R41 to R65), and the device reset (R188 to R190). -/

namespace Sys2Proof.Machine

/-! ### Event Queue (spec/04) -/

/-- The messages of a queue, the head first: highest class first, each class from front to back (R69). -/
def EventQueue.messages (q : EventQueue) : List Message := q[3] ++ q[2] ++ q[1] ++ q[0]

/-- The queue without its head, the first message of the highest class that is not empty (R69, R73). -/
def EventQueue.dropHead (q : EventQueue) : EventQueue :=
  if q[3] ≠ [] then q.set 3 q[3].tail
  else if q[2] ≠ [] then q.set 2 q[2].tail
  else if q[1] ≠ [] then q.set 1 q[1].tail
  else q.set 0 q[0].tail

/-- A new message at the tail of its class (R70). -/
def EventQueue.append (q : EventQueue) (m : Message) : EventQueue :=
  q.set m.prio.val (q[m.prio.val] ++ [m])

/-- A message ahead of every message of its class (R71). -/
def EventQueue.frontInsert (q : EventQueue) (m : Message) : EventQueue :=
  q.set m.prio.val (m :: q[m.prio.val])

/-- The message of a source removed from whatever place it holds (R72). -/
def EventQueue.withdraw (q : EventQueue) (n : SourceId) : EventQueue :=
  q.map fun c => c.filter fun m => m.source ≠ n

/-- The message of a source changed in place (R72). -/
def EventQueue.amend (q : EventQueue) (n : SourceId) (f : Message → Message) : EventQueue :=
  q.map fun c => c.map fun m => if m.source = n then f m else m

/-- QUEUE_DEPTH (R68). -/
def State.queueDepth (s : State) : Nat := s.queue.messages.length

/-- The head of the Event Queue (R69). -/
def State.queueHead (s : State) : Option Message := s.queue.messages.head?

/-- The queued message of a source. -/
def State.messageOf (s : State) (n : SourceId) : Option Message :=
  s.queue.messages.find? fun m => m.source = n

/-! ### Qualified level (spec/01) -/

/-- The qualified level of a source: of a line by R4, of a soft source its soft level bit (R10). -/
def State.qualified (s : State) (n : SourceId) : Bool :=
  if h : n.val < 32 then
    if (s.src n).sense = .levelLow then !(s.line ⟨n.val, h⟩).accepted
    else (s.line ⟨n.val, h⟩).accepted
  else s.softLevel ⟨n.val - 32, by omega⟩

/-! ### Messages and re-evaluation -/

/-- A message of a source, with copies of its VECTOR, DEST and PRIO and its class as LEVEL (R19, R40). -/
def Source.message (e : Source) (n : SourceId) (count : Byte) (overrun resent : Bool) : Message :=
  { source := n, vector := e.vector, dest := e.dest, prio := e.prio, count := count,
    overrun := overrun, level := e.sense.isLevel, resent := resent }

/-- A message created at the tail of its class, and STATE QUEUED (R41). -/
def State.queueTail (s : State) (n : SourceId) (count : Byte) (overrun resent : Bool) : State :=
  (s.setQueue (s.queue.append ((s.src n).message n count overrun resent))).setSrc n
    { s.src n with state := .queued }

/-- A message created at the front of its class, and STATE QUEUED (R41, R71). -/
def State.queueFront (s : State) (n : SourceId) (count : Byte) (overrun : Bool) : State :=
  (s.setQueue (s.queue.frontInsert ((s.src n).message n count overrun true))).setSrc n
    { s.src n with state := .queued }

/-- The four conditions of re-evaluation: enabled, unmasked, of class LEVEL, asserted (R23). -/
def State.raisable (s : State) (n : SourceId) : Bool :=
  (s.src n).enable && !(s.src n).mask && (s.src n).sense.isLevel && s.qualified n

/-- Re-evaluation of a source that is IDLE (R23); RESENT is set at session end alone. -/
def State.reevaluate (s : State) (n : SourceId) (resent : Bool) : State :=
  if s.raisable n then s.queueTail n 1 false resent else s

/-- The message of a source withdrawn, STATE IDLE, the withdrawal counted (R41, R72). -/
def State.withdrawSource (s : State) (n : SourceId) : State :=
  ((s.setQueue (s.queue.withdraw n)).setSrc n { s.src n with state := .idle }).count .eventsWithdrawn

/-! ### Reports (spec/03) -/

/-- An edge event that reaches a source in QUEUED is coalesced, or lost at 255 (R45, R50). -/
def State.coalesce (s : State) (n : SourceId) : State :=
  match s.messageOf n with
  | none => s
  | some m =>
    if m.count = 255 then
      (s.setQueue (s.queue.amend n fun m => { m with overrun := true })).raiseFlag .overrun
    else s.setQueue (s.queue.amend n fun m => { m with count := m.count + 1 })

/-- An edge event counted into PENDING, or lost at 255 (R49, R50). -/
def State.countPending (s : State) (n : SourceId) : State :=
  if (s.src n).pending = 255 then
    (s.setSrc n { s.src n with pendOvr := true }).raiseFlag .overrun
  else s.setSrc n { s.src n with pending := (s.src n).pending + 1 }

/-- An edge event at a source: discarded if it is disabled or masked (R42), else by STATE (R43, R45,
R49). It does not arise in DELIVERED (R55), where it is left without effect. -/
def State.edgeEvent (s : State) (n : SourceId) : State :=
  if (s.src n).enable && !(s.src n).mask then
    match (s.src n).state with
    | .idle => s.queueTail n 1 false false
    | .queued => s.coalesce n
    | .sent | .holdoff => s.countPending n
    | .delivered => s
  else s

/-- A level change at a source (R42, R44, R46, R51). -/
def State.levelChange (s : State) (n : SourceId) (asserted : Bool) : State :=
  if (s.src n).enable then
    match (s.src n).state with
    | .idle => if asserted && !(s.src n).mask then s.queueTail n 1 false false else s
    | .queued => if asserted then s else s.withdrawSource n
    | .sent | .delivered | .holdoff => s
  else s

/-! ### Line Sampler (spec/01) -/

/-- The report of an acceptance by the SENSE of the source (R5). -/
def State.reportAcceptance (s : State) (n : SourceId) (rising : Bool) : State :=
  match (s.src n).sense with
  | .levelHigh => s.levelChange n rising
  | .levelLow => s.levelChange n (!rising)
  | .rising => if rising then s.edgeEvent n else s
  | .falling => if rising then s else s.edgeEvent n
  | .anyEdge => s.edgeEvent n

/-- An acceptance: the accepted line value takes the observed value, the interval stands stopped, and
the report is taken in the same event (R2, R3, R6). An accepted value that does not change is no
acceptance (R5). -/
def State.acceptLine (s : State) (l : LineId) : State :=
  if (s.line l).accepted = (s.line l).observed then s.setLine l { s.line l with interval := none }
  else
    (s.setLine l { s.line l with accepted := (s.line l).observed, interval := none }).reportAcceptance
      (lineSource l) (s.line l).observed

/-- Recomputation of a line: interval stopped, observed value taken without filtering, no report (R7). -/
def State.recomputeLine (s : State) (l : LineId) : State :=
  s.setLine l { s.line l with accepted := (s.line l).observed, interval := none }

/-! ### Masks (spec/02, section 2.5) -/

/-- A mask set request (R30). -/
def State.maskSet (s : State) (n : SourceId) : State :=
  let t := s.setSrc n { s.src n with mask := true, pending := 0, pendOvr := false }
  if (s.src n).state = .queued then t.withdrawSource n else t

/-- A mask clear request (R31). -/
def State.maskClear (s : State) (n : SourceId) : State :=
  let t := s.setSrc n { s.src n with mask := false }
  if (s.src n).state = .idle then t.reevaluate n false else t

/-- The sources of a list that re-evaluation will queue, class by class. Within a class the order is
the free value: the manual lets appends that arrive together be taken in either order (R29, R70).
Assumption log 8. -/
def State.raiseOrder (s : State) (ns : List SourceId) : List SourceId :=
  ([3, 2, 1, 0] : List (Fin 4)).flatMap fun c =>
    (ns.filter fun n => decide ((s.src n).state = .idle) && s.raisable n && decide ((s.src n).prio = c)).insertionSort
      fun a b => Config.freeKey s.freeCount a.val ≤ Config.freeKey s.freeCount b.val

/-- The mask clear requests that one write issues: each MASK becomes 0, and the sources that are then
raised are appended in a free order (R29, R31). -/
def State.maskClearAll (s : State) (ns : List SourceId) : State :=
  let t := ns.foldl (fun t n => t.setSrc n { t.src n with mask := false }) s
  ((t.raiseOrder ns).foldl (fun t n => t.reevaluate n false) t).setFreeCount (s.freeCount + 1)

/-! ### Acknowledgment, release and session end of a source (spec/03) -/

/-- The holdoff timer starts and STATE becomes HOLDOFF (R58). -/
def State.startHoldoff (s : State) (n : SourceId) : State :=
  s.setSrc n { s.src n with state := .holdoff, holdoff := some s.now }

/-- PENDING edges delivered as one new message, or nothing to deliver and IDLE (R53 with HOLD 0; R59). -/
def State.flushPending (s : State) (n : SourceId) : State :=
  let t := s.setSrc n { s.src n with pending := 0, pendOvr := false, state := .idle }
  if (s.src n).pending ≠ 0 && !(s.src n).mask then
    t.queueTail n (s.src n).pending (s.src n).pendOvr false
  else t

/-- Acknowledgment of the frame of a source: DELIVERED and on the list for class LEVEL (R52), by HOLD
and PENDING for class EDGE (R53). -/
def State.ackSource (s : State) (n : SourceId) : State :=
  if (s.src n).sense.isLevel then
    (s.setSrc n { s.src n with state := .delivered }).setDelivered (s.delivered ++ [n])
  else if (s.src n).hold ≠ 0 then s.startHoldoff n
  else s.flushPending n

/-- Release of a DELIVERED source by a Completion, off the list already (R56). -/
def State.releaseSource (s : State) (n : SourceId) : State :=
  if (s.src n).hold ≠ 0 then s.startHoldoff n
  else (s.setSrc n { s.src n with state := .idle }).reevaluate n false

/-- Session end of a SENT source with the count and OVERRUN of its frame: class EDGE by R62, class
LEVEL by R63. -/
def State.requeueSource (s : State) (n : SourceId) (count : Byte) (overrun : Bool) : State :=
  let t := s.setSrc n { s.src n with pending := 0, pendOvr := false, state := .idle }
  if (s.src n).sense.isLevel then
    if !(s.src n).mask && s.qualified n then t.queueFront n 1 false
    else t.count .eventsWithdrawn
  else if (s.src n).mask then t.count .eventsWithdrawn
  else if count.toNat + (s.src n).pending.toNat > 255 then
    (t.queueFront n 255 true).raiseFlag .overrun
  else t.queueFront n (count + (s.src n).pending) (overrun || (s.src n).pendOvr)

/-- Session end of a DELIVERED source, off the list already (R64). -/
def State.abandonSource (s : State) (n : SourceId) : State :=
  (s.setSrc n { s.src n with state := .idle }).reevaluate n true

/-! ### Device reset (spec/11, section 11.7) -/

/-- The device enters reset: every block takes its reset value, no session end is made, nothing is
counted or reported (R188 to R190). The queue of commands, the model's clock and counter, the EV pins
and the local bus are outside the blocks and stand (assumption log 7, 12). -/
def State.enterReset (s : State) (cause : ResetCause) : State :=
  { State.reset with
    pending := s.pending, now := s.now, freeCount := s.freeCount, bus := s.bus,
    resetting := some cause, lines := s.lines.map fun l => Line.reset l.pin,
    regs := Registers.reset cause }

/-- Whether a device reset is in effect (R188). -/
def State.inReset (s : State) : Bool := s.resetting.isSome

/-- An event that is not taken while a device reset is in effect (R190). -/
def State.unlessReset (s : State) (f : State → State) : State := if s.inReset then s else f s

end Sys2Proof.Machine
end

