-- ==== Sys2Proof/Machine/Frames.lean ====
section
/-! DEFINITION. Link characters, the CRC and the frame formats (spec/05): the bytes and bits of every
item sent, and the judging and reading of a frame received. -/

namespace Sys2Proof.Machine

/-! ### Characters (R88, R90) -/

/-- Even parity: true when the byte holds an odd number of ones (R88). -/
def parityBit (b : Byte) : Bool := (List.range 8).foldl (fun p i => p ^^ b.getLsbD i) false

/-- The 11 bit times of a character: start 0, data least significant bit first, parity, stop 1 (R88). -/
def charWire (b : Byte) : List Bool :=
  false :: (List.range 8).map (fun i => b.getLsbD i) ++ [parityBit b, true]

/-- The outcome of a received character: its value, or `none` in error, by a parity error, a framing
error or both (R90). -/
def charValue (c : RxChar) : Option Byte :=
  if c.parity = parityBit c.data && c.stop then some c.data else none

/-- A character as a sender that obeys R88 sends it. -/
def goodChar (b : Byte) : RxChar := { data := b, parity := parityBit b, stop := true }

/-! ### CRC (R95) -/

/-- One bit step of the CRC register (R95, step 3). -/
def crcBit (r : BitVec 16) : BitVec 16 := if r.getLsbD 15 then (r <<< 1) ^^^ 0x1021#16 else r <<< 1

/-- One byte of the CRC (R95, steps 2 and 3). -/
def crcByte (r : BitVec 16) (b : Byte) : BitVec 16 :=
  (List.range 8).foldl (fun r _ => crcBit r) (r ^^^ (b ++ (0 : BitVec 8)))

/-- The CRC of a list of bytes (R95). -/
def crc16 (bytes : List Byte) : BitVec 16 := bytes.foldl crcByte 0xFFFF#16

/-! ### Frames sent (R94, R96 to R99) -/

/-- The bytes of a frame: SOF, HDR, SEQ, LEN, payload, CRC high, CRC low (R94). -/
def frameBytes (kind flags : BitVec 4) (seq : SeqNum) (payload : List Byte) : List Byte :=
  let body := (kind ++ flags : BitVec 8) :: ((0 : BitVec 2) ++ seq : BitVec 8) ::
    BitVec.ofNat 8 payload.length :: payload
  Config.sofChar :: body ++ [(crc16 body).extractLsb' 8 8, (crc16 body).extractLsb' 0 8]

/-- The status byte of a REPLY record: 5 qualified level, 4 ENABLE, 3 MASK, 2:0 STATE (R99). -/
def SourceRecord.status (r : SourceRecord) : Byte :=
  (0 : BitVec 2) ++ bit1 r.level ++ bit1 r.enable ++ bit1 r.mask ++ r.state.code

/-- The three payload bytes of a REPLY record (R97). -/
def SourceRecord.bytes (r : SourceRecord) : List Byte :=
  [BitVec.ofNat 8 r.source.val, r.status, r.pending]

/-- The kind code of a sequenced frame (R96). -/
def Body.kind : Body → BitVec 4
  | .event _ => 0x4
  | .note _ _ => 0x5
  | .reply _ => 0x6

/-- The flags of a sequenced frame: RESENT, OVERRUN and LEVEL of an EVENT in bits 2 to 0 (R96). -/
def Body.flags : Body → BitVec 4
  | .event m => (0 : BitVec 1) ++ bit1 m.resent ++ bit1 m.overrun ++ bit1 m.level
  | .note _ _ => 0
  | .reply _ => 0

/-- The payload of a sequenced frame (R97, R98). -/
def Body.payload : Body → List Byte
  | .event m => [BitVec.ofNat 8 m.source.val, m.vector, m.dest ++ BitVec.ofNat 4 m.prio.val, m.count]
  | .note _ n => n.tag :: n.data
  | .reply r => r.tag :: r.result.code :: BitVec.ofNat 8 r.records.length :: r.records.flatMap (·.bytes)

/-- The bytes of a frame record, the same at every transmission (R80, R94, R124). -/
def FrameRecord.bytes (r : FrameRecord) : List Byte :=
  frameBytes r.body.kind r.body.flags r.seq r.body.payload

/-- The bytes of an item; a break has none (R76, R94, R98). -/
def Item.bytes : Item → List Byte
  | .sync => [Config.syncChar]
  | .brk => []
  | .hello heard window epoch =>
    frameBytes 0x1 ((0 : BitVec 3) ++ bit1 heard) 0
      [Config.linkRevision, window.setWidth 8, epoch, Config.roleDevice]
  | .ack n => frameBytes 0x2 0 n []
  | .nak n => frameBytes 0x3 0 n []
  | .sequenced r => r.bytes

/-- The levels of the transmit pair over the bit times of an item (R76, R88, R91). -/
def Item.wire : Item → List Bool
  | .sync => charWire Config.syncChar
  | .brk => List.replicate Config.breakBits false
  | .hello heard window epoch => (Item.hello heard window epoch).bytes.flatMap charWire
  | .ack n => (Item.ack n).bytes.flatMap charWire
  | .nak n => (Item.nak n).bytes.flatMap charWire
  | .sequenced r => r.bytes.flatMap charWire

/-- The length of an item in bit times (R76). -/
def Item.bitTimes (i : Item) : Nat := i.wire.length

/-- The level of the transmit pair `k` bit times after the item in transmission began: the item's own level
until it ends, and 1 from then on; 1 while nothing is sent (R88, R91). -/
def State.txLevel (s : State) (k : Nat) : Bool :=
  match s.tx with
  | none => Config.restLevel
  | some i => i.wire.getD k Config.restLevel

/-! ### Frames received (R96, R97, R103) -/

/-- A good frame of a kind the device accepts, with the fields its consumer reads (R96, R97). -/
inductive RxFrame where
  | hello (heard : Bool) (revision window epoch role : Byte)
  | ack (number : SeqNum)
  | nak (number : SeqNum)
  | complete (seq : SeqNum) (oldest : Bool) (vector : Byte)
  | note (seq : SeqNum) (tag : Byte) (data : List Byte)
  | control (seq : SeqNum) (tag op first count : Byte)
deriving DecidableEq, Repr

/-- The frame of a kind with that payload, if the kind is one the device accepts and the payload has the
length R96 gives it (R103, items 4 and 5). Flags without a name are not examined (R96). -/
def readKind (hdr : Byte) (seq : SeqNum) (payload : List Byte) : Option RxFrame :=
  match (hdr.extractLsb' 4 4).toNat, payload with
  | 0x1, [revision, window, epoch, role] => some (.hello (hdr.getLsbD 0) revision window epoch role)
  | 0x2, [] => some (.ack seq)
  | 0x3, [] => some (.nak seq)
  | 0x5, tag :: data =>
    if 1 ≤ data.length ∧ data.length ≤ 8 then some (.note seq tag data) else none
  | 0x8, [vector] => some (.complete seq (hdr.getLsbD 0) vector)
  | 0x9, [tag, op, first, count] => some (.control seq tag op first count)
  | _, _ => none

/-- The good frame that a completed frame is, from its bytes after the SOF, or `none` if it is bad by
items 2 to 6 of R103. -/
def readFrame (bytes : List Byte) : Option RxFrame :=
  match bytes with
  | hdr :: sq :: ln :: rest =>
    let payload := rest.take ln.toNat
    if ln.toNat ≤ Config.maxPayload ∧ rest.length = ln.toNat + 2 ∧
        rest.drop ln.toNat = [(crc16 (hdr :: sq :: ln :: payload)).extractLsb' 8 8,
          (crc16 (hdr :: sq :: ln :: payload)).extractLsb' 0 8] ∧
        sq.getLsbD 7 = false ∧ sq.getLsbD 6 = false then
      readKind hdr (sq.extractLsb' 0 6) payload
    else none
  | _ => none

/-- The judging of a completed frame: `none` is a bad frame (R103). -/
def judge (c : Collecting) : Option RxFrame := if c.errorMark then none else readFrame c.bytes

/-- The bytes of a good frame as a collector may send it, SOF included (R94, R96, R97). Bits that the
device does not examine are free: the flag bits without a name are those of `spare`, and bits 5 to 0 of the
SEQ of a HELLO are `helloSeq`. -/
def RxFrame.bytes (spare : BitVec 4) (helloSeq : SeqNum) : RxFrame → List Byte
  | .hello heard revision window epoch role =>
    frameBytes 0x1 (spare.extractLsb' 1 3 ++ bit1 heard) helloSeq [revision, window, epoch, role]
  | .ack n => frameBytes 0x2 spare n []
  | .nak n => frameBytes 0x3 spare n []
  | .complete n oldest vector => frameBytes 0x8 (spare.extractLsb' 1 3 ++ bit1 oldest) n [vector]
  | .note n tag data => frameBytes 0x5 spare n (tag :: data)
  | .control n tag op first count => frameBytes 0x9 spare n [tag, op, first, count]

end Sys2Proof.Machine
end

