-- ==== Sys2Proof/Machine/Session.lean ====
section
/-! DEFINITION. The Session Controller (spec/06): changes of link state, session start and end, fault
recording, and the commands LINK_ENABLE, LINK_DISABLE and LINK_RESTART. -/

namespace Sys2Proof.Machine

/-- A new link state: frame assembly returns to HUNT at every change, whatever its cause (R102). -/
def State.setLink (s : State) (l : Link) : State :=
  (s.setSession { s.session with link := l }).setReceiver { s.receiver with assembly := none }

/-- SYNCING is entered: the SYNC count is 0 (R107, R110). -/
def State.enterSyncing (s : State) : State :=
  (s.setSession { s.session with syncCount := 0 }).setLink .syncing

/-- SYNC characters begin at once if no item is in transmission; an item runs to its end (R84, R86). -/
def State.beginSync (s : State) : State := if s.tx = none then s.setTx (some .sync) else s

/-! ### Session end (R117) -/

/-- What session end does with one record of the Window (R135): a source by R62 or R63, a note slot back
to WAITING at the front of the waiting order (R164), a reply discarded (R177). -/
def State.disposeRecord (s : State) (r : FrameRecord) : State :=
  match r.body with
  | .event m => s.requeueSource m.source m.count m.overrun
  | .note k n =>
    s.setNotes { s.notes with
      slots := s.notes.slots.set k.val (.waiting n), order := k :: s.notes.order }
  | .reply _ => s

/-- Every record is disposed of. Each requeued message and returned slot is placed at a front, so taking
the newest record first leaves the oldest foremost, the order of R65, R71 and R164. -/
def State.disposeRecords (s : State) : List FrameRecord → State
  | [] => s
  | r :: rs => (s.disposeRecords rs).disposeRecord r

/-- Session end, but for the link state, the fault and the item in transmission: every disposition of
R117, and LINK_DOWN. -/
def State.endSession (s : State) : State :=
  let t := (s.setWindow { s.window with records := [], retry := 0, timer := none }).disposeRecords
    s.window.records
  let t := s.delivered.foldl State.abandonSource (t.setDelivered [])
  let t := t.setReplies []
  let t := t.setArbiter { t.arbiter with
    ackDue := none, nakDue := none, resend := none, finalHelloDue := false }
  let t := t.setReceiver { t.receiver with assembly := none, badRun := 0, nakSent := false }
  let t := t.setSession { t.session with agreed := 0 }
  t.raiseFlag .linkDown

/-! ### Leaving a link state -/

/-- GREETING is left: timeout, HELLO due and greeting interval stop (R84, R108, R114, R116). -/
def State.stopGreeting (s : State) : State :=
  (s.setSession { s.session with greetTimeout := none }).setArbiter
    { s.arbiter with helloDue := false, greetInterval := none }

/-- GREETING is left without a session: the HEARD memory and the agreed window are 0 too (R108, R109,
R113, R116). -/
def State.abandonGreeting (s : State) : State :=
  (s.setSession { s.session with heard := false, agreed := 0 }).stopGreeting

/-- What every departure from the link state does, whatever state follows (R108, R109, R113, R116). -/
def State.leaveLink (s : State) : State :=
  match s.session.link with
  | .disabled => s
  | .syncing => s.setSession { s.session with syncCount := 0 }
  | .greeting => s.abandonGreeting
  | .active => s.endSession
  | .failed => s.setSession { s.session with restartDelay := none }

/-! ### Faults -/

/-- Recording of an entry to FAILED (R120). -/
def State.recordFault (s : State) (cause : FaultCause) : State :=
  if s.session.faultCause = .none then s.setSession { s.session with faultCause := cause }
  else if s.session.faultCount = 255 then s
  else s.setSession { s.session with faultCount := s.session.faultCount + 1 }

/-- Entry to FAILED from GREETING or ACTIVE (R116): fault recorded, LINK_DOWN, session end from ACTIVE,
item cut off by a break, restart delay started when AUTO is 1. -/
def State.enterFailed (s : State) (cause : FaultCause) : State :=
  let t := (s.leaveLink.recordFault cause).raiseFlag .linkDown
  let t := t.setSession { t.session with
    restartDelay := if t.regs.linkCfg.auto then some t.now else none }
  (t.setLink .failed).setTx (some .brk)

/-! ### Greeting and session start -/

/-- Entry to GREETING (R111); SYNCING is left, so the SYNC count is 0 (R110). -/
def State.enterGreeting (s : State) : State :=
  let t := s.setSession { s.session with
    syncCount := 0, localEpoch := s.session.localEpoch + 1, heard := false, agreed := 0,
    greetTimeout := some s.now }
  (t.setArbiter { t.arbiter with helloDue := true, greetInterval := some s.now }).setLink .greeting

/-- Session start (R114). The Window, its timer and counts, the NAK-sent memory and the consecutive
count are stated there to stand as session end left them; they are set so here (assumption log 14). -/
def State.startSession (s : State) : State :=
  let t := s.stopGreeting
  let t := t.setWindow Window.reset
  let t := t.setReceiver { t.receiver with badRun := 0, expected := 0, nakSent := false }
  let t := t.setArbiter { t.arbiter with turn := .note, resend := none, finalHelloDue := true }
  ((t.setLink .active).count .sessions).raiseFlag .linkUp

/-- Recording of a valid HELLO: peer epoch, and the smaller of the two windows as agreed window;
the HEARD memory becomes 1 (R112). -/
def State.recordHello (s : State) (window epoch : Byte) : State :=
  s.setSession { s.session with
    peerEpoch := epoch, heard := true,
    agreed := if window.toNat ≤ s.regs.linkCfg.window.toNat then window.setWidth 4
      else s.regs.linkCfg.window }

/-- Whether a HELLO's payload is valid (R112). -/
def helloValid (revision window role : Byte) : Bool :=
  revision = Config.linkRevision && 1 ≤ window.toNat && window.toNat ≤ Config.maxWindow &&
    role = Config.roleCollector

/-- A good HELLO in GREETING (R112). -/
def State.greetHello (s : State) (heard : Bool) (revision window epoch role : Byte) : State :=
  if helloValid revision window role then
    if heard then (s.recordHello window epoch).startSession else s.recordHello window epoch
  else s.enterFailed .paramMismatch

/-- A good HELLO in ACTIVE: discarded with the recorded epoch, else the peer has restarted (R115). -/
def State.activeHello (s : State) (epoch : Byte) : State :=
  if epoch = s.session.peerEpoch then s else s.enterFailed .peerRestart

/-! ### Local link commands -/

/-- LINK_ENABLE (R107). -/
def State.linkEnable (s : State) : State :=
  if s.session.link = .disabled then s.enterSyncing.beginSync else s

/-- LINK_DISABLE (R108): the item in transmission is cut off, a break included (R86). -/
def State.linkDisable (s : State) : State :=
  if s.session.link = .disabled then s else (s.leaveLink.setLink .disabled).setTx none

/-- LINK_RESTART (R109): a break is sent, and SYNC follows it (R86). -/
def State.linkRestart (s : State) : State :=
  if s.session.link = .disabled then s.refuse .linkRestart 0 .linkBusy
  else s.leaveLink.enterSyncing.setTx (some .brk)

/-! ### The Session Controller's reports -/

/-- A character outcome at the SYNC count (R110). -/
def State.countSync (s : State) (v : Option Byte) : State :=
  if v = some Config.syncChar then
    if s.session.syncCount + 1 ≥ Config.syncsWanted then s.enterGreeting
    else s.setSession { s.session with syncCount := s.session.syncCount + 1 }
  else s.setSession { s.session with syncCount := 0 }

/-- A break taken by the Session Controller (R92, R110, R113, R116). -/
def State.takeBreak (s : State) : State :=
  match s.session.link with
  | .syncing => s.setSession { s.session with syncCount := 0 }
  | .greeting => s.abandonGreeting.enterSyncing
  | .active => s.enterFailed .peerBreak
  | .disabled | .failed => s

end Sys2Proof.Machine
end

