-- ==== Sys2Proof/Machine/RetransmitWindow.lean ====
section
/-! DEFINITION. The Retransmit Window (spec/07): ACK, NAK, the acknowledgment timer and the retry count. -/

namespace Sys2Proof.Machine

/-- The place of a number counted from the oldest record, modulo 64 (R124). -/
def Window.offset (w : Window) (n : SeqNum) : Nat :=
  match w.records with
  | [] => 0
  | r :: _ => (n - r.seq).toNat

/-- Whether a number is in the Window: (n − s) modulo 64 is less than c (R124). -/
def Window.holds (w : Window) (n : SeqNum) : Bool := w.offset n < w.records.length

/-- The sequence number of the oldest record, if there is one. -/
def Window.oldest (w : Window) : Option SeqNum := w.records.head?.map (·.seq)

/-- The record with a number, if the Window holds it. -/
def Window.record (w : Window) (n : SeqNum) : Option FrameRecord := w.records.find? fun r => r.seq = n

/-- The resend point after a retransmission: the next newer record, or empty after the newest (R80). -/
def Window.newer (w : Window) (n : SeqNum) : Option SeqNum :=
  if w.holds (n + 1) then some (n + 1) else none

/-- What the owner of an acknowledged record does (R128): a source by R52 or R53, a note slot becomes
FREE and NOTE_SLOT is set (R162), a reply is discarded (R175). -/
def State.ackRecord (s : State) (r : FrameRecord) : State :=
  match r.body with
  | .event m => s.ackSource m.source
  | .note k _ =>
    (s.setNotes { s.notes with slots := s.notes.slots.set k.val .free }).raiseFlag .noteSlot
  | .reply _ => s

/-- The `k` oldest records leave the Window as acknowledged, each reported to its owner, oldest first
(R128). -/
def State.removeAcked (s : State) (k : Nat) : State :=
  (s.window.records.take k).foldl State.ackRecord
    (s.setWindow { s.window with records := s.window.records.drop k })

/-- The resend point after records have left: if it named one of them, the oldest that remains, or
empty (R127, R130). -/
def movedResend (resend : Option SeqNum) (gone : List FrameRecord) (left : Window) : Option SeqNum :=
  match resend with
  | none => none
  | some p => if gone.any fun r => r.seq = p then left.oldest else some p

/-- A good ACK with number n, in ACTIVE (R127). -/
def State.takeAck (s : State) (n : SeqNum) : State :=
  if s.window.holds n then
    let k := s.window.offset n + 1
    let t := s.removeAcked k
    let t := t.setArbiter { t.arbiter with
      resend := movedResend s.arbiter.resend (s.window.records.take k) t.window }
    t.setWindow { t.window with
      retry := 0, timer := if t.window.records = [] then none else some t.now }
  else s

/-- The retry count increased and checked: past RETRIES the session fails with RETRY_LIMIT, else the
resend point is set and the timer restarted (R129, R132, R133). -/
def State.countRetry (s : State) (resend : Option SeqNum) : State :=
  let t := s.setWindow { s.window with retry := s.window.retry + 1 }
  if t.window.retry > t.regs.linkCfg.retries.toNat then t.enterFailed .retryLimit
  else
    (t.setArbiter { t.arbiter with resend := resend }).setWindow { t.window with timer := some t.now }

/-- A good NAK with number n, in ACTIVE (R129). -/
def State.takeNak (s : State) (n : SeqNum) : State :=
  if s.window.holds n then (s.removeAcked (s.window.offset n)).countRetry (some n) else s

/-- Expiry of the acknowledgment timer (R132); a stopped timer reports none (R131). -/
def State.ackTimerExpiry (s : State) : State :=
  if s.session.link = .active ∧ s.window.timer.isSome then s.countRetry s.window.oldest else s

/-- The end of a transmission of a sequenced frame: the timer starts if it is stopped and the Window
holds a record (R126). -/
def State.endReport (s : State) : State :=
  if s.window.timer = none ∧ s.window.records ≠ [] then
    s.setWindow { s.window with timer := some s.now }
  else s

end Sys2Proof.Machine
end

