-- ==== Sys2Proof/Machine/Completions.lean ====
section
/-! DEFINITION. Completions and the Delivered List (spec/08). -/

namespace Sys2Proof.Machine

/-- An unmatched Completion: counted, flagged and recorded (R151). -/
def State.unmatchedCompletion (s : State) (vector : Byte) (oldest : Bool) (reason : UnmatchedReason) :
    State :=
  let t := (s.count .completionsUnmatched).raiseFlag .unmatched
  t.setRegs { t.regs with unmatched := { vector := vector, oldest := oldest, reason := reason } }

/-- A Completion accepted by the Delivered List (R148): by vector it releases every entry of that
vector, in list order (R149); as oldest, the oldest entry alone (R150). -/
def State.takeCompletion (s : State) (oldest : Bool) (vector : Byte) : State :=
  if oldest then
    if vector ≠ 0 then s.unmatchedCompletion vector oldest .badOldest
    else
      match s.delivered with
      | [] => s.unmatchedCompletion vector oldest .listEmpty
      | n :: rest => (s.setDelivered rest).releaseSource n
  else
    let matched := s.delivered.filter fun n => (s.src n).vector = vector
    if matched = [] then s.unmatchedCompletion vector oldest .noMatch
    else
      matched.foldl State.releaseSource
        (s.setDelivered (s.delivered.filter fun n => (s.src n).vector ≠ vector))

end Sys2Proof.Machine
end

