-- ==== Sys2Proof/Machine/Control.lean ====
section
/-! DEFINITION. The Control Responder (spec/10): checking, executing and answering a Control request. -/

namespace Sys2Proof.Machine

/-- A source as a reply reports it (R99, R169). -/
def State.capture (s : State) (n : SourceId) : SourceRecord :=
  { source := n, state := (s.src n).state, mask := (s.src n).mask, enable := (s.src n).enable,
    level := s.qualified n, pending := (s.src n).pending }

/-- A reply appended at the tail of the Reply Queue (R169). -/
def State.answer (s : State) (tag : Byte) (result : ReplyResult) (records : List SourceRecord) : State :=
  s.setReplies (s.replies ++ [{ tag := tag, result := result, records := records }])

/-- A remote MASK or UNMASK carried out (R171, R172). -/
def State.remoteMask (s : State) (tag : Byte) (n : SourceId) (op : RemoteOp) : State :=
  let t := if op = .mask then s.maskSet n else s.maskClear n
  let t := t.raiseFlag .remoteAction
  let t := t.setRegs { t.regs with remote := { source := n, op := op } }
  t.answer tag .ok [t.capture n]

/-- A MASK or UNMASK request under the checks of R170. -/
def State.controlMask (s : State) (tag first count : Byte) (op : RemoteOp) : State :=
  if count ≠ 1 then s.answer tag .badRequest []
  else
    match sourceOf first.toNat with
    | none => s.answer tag .badSource []
    | some n => if (s.src n).remote then s.remoteMask tag n op else s.answer tag .notPermitted []

/-- A QUERY under the checks of R170; its records are captured together (R173). -/
def State.controlQuery (s : State) (tag first count : Byte) : State :=
  if count = 0 ∨ count.toNat ≥ 9 then s.answer tag .badRequest []
  else if first.toNat + count.toNat > 40 then s.answer tag .badSource []
  else
    s.answer tag .ok
      ((allSources.filter fun n => first.toNat ≤ n.val ∧ n.val < first.toNat + count.toNat).map s.capture)

/-- An accepted CONTROL (R170): op 1 MASK, 2 UNMASK, 3 QUERY (R97). -/
def State.takeControl (s : State) (tag op first count : Byte) : State :=
  match op.toNat with
  | 1 => s.controlMask tag first count .mask
  | 2 => s.controlMask tag first count .unmask
  | 3 => s.controlQuery tag first count
  | _ => s.answer tag .badRequest []

end Sys2Proof.Machine
end

