-- ==== Sys2Proof/Machine/Notes.lean ====
section
/-! DEFINITION. The Note Unit (spec/09): NOTE_SEND, NOTE_POP, NOTE_FLUSH and an inbound note. -/

namespace Sys2Proof.Machine

/-- The eight staged data bytes, byte 1 first (R159). -/
def NoteUnit.stagedBytes (u : NoteUnit) : List Byte := dataBytes u.outData0 ++ dataBytes u.outData1

/-- The staged note: tag and data bytes 1 to length; bytes beyond the length are not copied (R160). -/
def NoteUnit.staged (u : NoteUnit) : Note :=
  { tag := u.outTag, data := u.stagedBytes.take u.outLength.toNat }

/-- The lowest-numbered FREE slot (R160). -/
def NoteUnit.freeSlot (u : NoteUnit) : Option SlotId :=
  (List.finRange 4).find? fun k => u.slots[k.val] = .free

/-- Whether a slot is WAITING. -/
def Slot.isWaiting : Slot → Bool
  | .waiting _ => true
  | _ => false

/-- Whether a slot is IN_FLIGHT. -/
def Slot.isInFlight : Slot → Bool
  | .inFlight _ => true
  | _ => false

/-- The oldest WAITING slot with its note (R158). -/
def NoteUnit.oldestWaiting (u : NoteUnit) : Option (SlotId × Note) :=
  match u.order with
  | [] => none
  | k :: _ =>
    match u.slots[k.val] with
    | .waiting n => some (k, n)
    | _ => none

/-- NOTE_SEND (R160); NOTE_FULL is decided before the length. -/
def State.noteSend (s : State) : State :=
  match s.notes.freeSlot with
  | none => s.refuse .noteSend (s.notes.outLength.setWidth 16) .noteFull
  | some k =>
    if s.notes.outLength = 0 ∨ s.notes.outLength.toNat ≥ 9 then
      s.refuse .noteSend (s.notes.outLength.setWidth 16) .badValue
    else
      s.setNotes { s.notes with
        slots := s.notes.slots.set k.val (.waiting s.notes.staged), order := s.notes.order ++ [k] }

/-- NOTE_POP (R168). -/
def State.notePop (s : State) : State :=
  match s.notes.fifo with
  | [] => s.refuse .notePop 0 .empty
  | _ :: rest => s.setNotes { s.notes with fifo := rest }

/-- NOTE_FLUSH (R163): every WAITING slot FREE, the waiting order empty. -/
def State.noteFlush (s : State) : State :=
  s.setNotes { s.notes with
    slots := s.notes.slots.map fun x => if x.isWaiting then .free else x, order := [] }

/-- A NOTE accepted into the FIFO (R166). -/
def State.takeNote (s : State) (tag : Byte) (data : List Byte) : State :=
  (s.setNotes { s.notes with fifo := s.notes.fifo ++ [{ tag := tag, data := data }] }).raiseFlag .noteIn

end Sys2Proof.Machine
end

