-- ==== Sys2Proof/Machine/Receiver.lean ====
section
/-! DEFINITION. The Link Receiver (spec/05, spec/07): where characters go, frame assembly and judging,
the handing on of good frames, sequence handling; and the meanings of CHARACTER, CHARACTER_GAP, BREAK,
HELLO, ACK, NAK, COMPLETE, NOTE and CONTROL. -/

namespace Sys2Proof.Machine

/-! ### Sequence handling (R137 to R143) -/

/-- The class of an inbound sequenced frame (R138). -/
inductive SeqClass where
  | expected | duplicate | ahead
deriving DecidableEq, Repr

/-- The class of number `n` against the expected number `e` (R138). -/
def classify (e n : SeqNum) : SeqClass :=
  if n - e = 0 then .expected else if 32 ≤ (n - e).toNat then .duplicate else .ahead

/-- An expected frame accepted by its consumer takes effect on the receiver (R140). -/
def State.acceptSequenced (s : State) (n : SeqNum) : State :=
  (s.setReceiver { s.receiver with expected := n + 1, nakSent := false }).setArbiter
    { s.arbiter with
      ackDue := some n, nakDue := if s.arbiter.nakDue = some n then none else s.arbiter.nakDue }

/-- A duplicate frame (R142). -/
def State.duplicate (s : State) : State :=
  (s.setArbiter { s.arbiter with ackDue := some (s.receiver.expected - 1) }).count .inboundDuplicates

/-- A frame ahead of E (R143). -/
def State.ahead (s : State) : State :=
  if s.receiver.nakSent then s
  else
    (s.setArbiter { s.arbiter with nakDue := some s.receiver.expected }).setReceiver
      { s.receiver with nakSent := true }

/-- A good sequenced frame in ACTIVE: classed (R138), and if expected offered to its consumer, which
has room or not (R139, R141). -/
def State.sequenced (s : State) (n : SeqNum) (room : Bool) (consume : State → State) : State :=
  match classify s.receiver.expected n with
  | .expected =>
    if room then (consume s).acceptSequenced n else s.count .inboundDeferred
  | .duplicate => s.duplicate
  | .ahead => s.ahead

/-! ### Good and bad frames (R103 to R105) -/

/-- A good frame handed on in ACTIVE (R104). -/
def State.activeFrame (s : State) : RxFrame → State
  | .hello _ _ _ epoch _ => s.activeHello epoch
  | .ack n => s.takeAck n
  | .nak n => s.takeNak n
  | .complete n oldest vector => s.sequenced n true fun t => t.takeCompletion oldest vector
  | .note n tag data =>
    s.sequenced n (s.notes.fifo.length < Config.fifoSize) fun t => t.takeNote tag data
  | .control n tag op first count =>
    s.sequenced n (s.replies.length < Config.replyQueueSize) fun t => t.takeControl tag op first count

/-- A good frame handed on in GREETING: a HELLO alone has an effect (R104). -/
def State.greetingFrame (s : State) : RxFrame → State
  | .hello heard revision window epoch role => s.greetHello heard revision window epoch role
  | .ack _ | .nak _ | .complete _ _ _ | .note _ _ _ | .control _ _ _ _ _ => s

/-- The arrival of a good frame, frame assembly back in HUNT: the consecutive-bad-frame count is 0 in
ACTIVE (R105), and the frame is handed on by the link state (R104). In the other states no frame is
assembled (R102), and the arrival has no effect (assumption log 1). -/
def State.goodFrame (s : State) (f : RxFrame) : State :=
  let t := s.setReceiver { s.receiver with assembly := none }
  match s.session.link with
  | .greeting => t.greetingFrame f
  | .active => (t.setReceiver { t.receiver with badRun := 0 }).activeFrame f
  | .disabled | .syncing | .failed => s

/-- A bad frame, frame assembly back in HUNT: counted in BAD_FRAMES (R103), and in ACTIVE in the
consecutive-bad-frame count, which reports LINE_ERRORS at 8 (R105). -/
def State.badFrame (s : State) : State :=
  let t := s.setReceiver { s.receiver with assembly := none }
  match s.session.link with
  | .greeting => t.count .badFrames
  | .active =>
    let t := (t.count .badFrames).setReceiver { t.receiver with badRun := t.receiver.badRun + 1 }
    if t.receiver.badRun ≥ Config.badRunLimit then t.enterFailed .lineErrors else t
  | .disabled | .syncing | .failed => s

/-! ### Frame assembly (R100, R101) -/

/-- One character added to a frame in COLLECT, as its next byte (R100). -/
def Collecting.add (c : Collecting) (v : Option Byte) : Collecting :=
  { received := c.received + 1, len := c.len, errorMark := c.errorMark || v.isNone,
    bytes := c.bytes ++ v.toList }

/-- A frame begun by a good SOF (R100). -/
def Collecting.start : Collecting := { received := 1, len := none, errorMark := false, bytes := [] }

/-- A character outcome in COLLECT: the fourth character decides LEN or ends the frame as bad; the frame
is judged when its last character arrives (R100, R101, R103). -/
def State.collect (s : State) (c : Collecting) (v : Option Byte) : State :=
  let d := c.add v
  if c.received = 3 then
    match v with
    | some b =>
      if b.toNat ≤ Config.maxPayload then
        s.setReceiver { s.receiver with assembly := some { d with len := some b.toNat } }
      else s.badFrame
    | none => s.badFrame
  else if d.len = some (d.received - 6) ∧ 6 ≤ d.received then
    match judge d with
    | some f => s.goodFrame f
    | none => s.badFrame
  else s.setReceiver { s.receiver with assembly := some d }

/-- A character outcome at frame assembly, in GREETING or ACTIVE (R100). -/
def State.assemble (s : State) (v : Option Byte) : State :=
  match s.receiver.assembly with
  | none =>
    if v = some Config.sofChar then
      s.setReceiver { s.receiver with assembly := some Collecting.start }
    else s
  | some c => s.collect c v

/-- A character outcome by link state (R93). -/
def State.takeCharacter (s : State) (v : Option Byte) : State :=
  match s.session.link with
  | .syncing => s.countSync v
  | .greeting | .active => s.assemble v
  | .disabled | .failed => s

/-! ### Meanings -/

/-- CHARACTER (R90, R93). -/
def execCharacter (c : RxChar) (s : State) : Host.Outcome State Fault Refusal :=
  .next (s.unlessReset fun s => s.takeCharacter (charValue c))

/-- CHARACTER_GAP (R101): a frame in COLLECT ends as bad; outside a frame nothing happens. -/
def execCharacterGap (s : State) : Host.Outcome State Fault Refusal :=
  .next (s.unlessReset fun s => if s.receiver.assembly.isSome then s.badFrame else s)

/-- BREAK (R92, R101): a frame in assembly is discarded uncounted, then the Session Controller takes the
break. -/
def execLineBreak (s : State) : Host.Outcome State Fault Refusal :=
  .next (s.unlessReset fun s => (s.setReceiver { s.receiver with assembly := none }).takeBreak)

/-- HELLO (R104, R112, R115). -/
def execHello (heard : Bool) (revision window epoch role : Byte) (s : State) :
    Host.Outcome State Fault Refusal :=
  .next (s.unlessReset fun s => s.goodFrame (.hello heard revision window epoch role))

/-- ACK (R104, R127). -/
def execAck (number : SeqNum) (s : State) : Host.Outcome State Fault Refusal :=
  .next (s.unlessReset fun s => s.goodFrame (.ack number))

/-- NAK (R104, R129). -/
def execNak (number : SeqNum) (s : State) : Host.Outcome State Fault Refusal :=
  .next (s.unlessReset fun s => s.goodFrame (.nak number))

/-- COMPLETE (R104, R138, R148). -/
def execComplete (seq : SeqNum) (oldest : Bool) (vector : Byte) (s : State) :
    Host.Outcome State Fault Refusal :=
  .next (s.unlessReset fun s => s.goodFrame (.complete seq oldest vector))

/-- NOTE (R104, R138, R166). A NOTE whose LEN is not 2 to 9 is a bad frame (R103, item 5; assumption
log 10). -/
def execNote (seq : SeqNum) (tag : Byte) (data : List Byte) (s : State) :
    Host.Outcome State Fault Refusal :=
  .next (s.unlessReset fun s =>
    if 1 ≤ data.length ∧ data.length ≤ 8 then s.goodFrame (.note seq tag data) else s.badFrame)

/-- CONTROL (R104, R138, R170). -/
def execControl (seq : SeqNum) (tag op first count : Byte) (s : State) :
    Host.Outcome State Fault Refusal :=
  .next (s.unlessReset fun s => s.goodFrame (.control seq tag op first count))

end Sys2Proof.Machine
end

