-- ==== Sys2Proof/Machine/Arbiter.lean ====
section
/-! DEFINITION. The Transmit Arbiter (spec/04): the choice at a frame boundary, grants, retransmissions,
and the meaning of FRAME_BOUNDARY. -/

namespace Sys2Proof.Machine

/-- What the Arbiter chooses at a boundary (R78, R82, R84, R85). -/
inductive Choice where
  /-- a SYNC character (R84) -/
  | sync
  /-- a greeting HELLO (R84) -/
  | hello
  /-- the final HELLO (R78, step 1) -/
  | finalHello
  | nak (number : SeqNum)
  | ack (number : SeqNum)
  /-- retransmission of the record at the resend point (R80) -/
  | resend (record : FrameRecord)
  /-- grant of the head of the Reply Queue (R78, step 5a) -/
  | reply (reply : Reply)
  /-- grant of the head of the Event Queue (R78, steps 5b and 5c) -/
  | event (message : Message)
  /-- grant of the oldest WAITING note slot (R78, step 5c) -/
  | note (slot : SlotId) (note : Note)
  /-- the transmitter goes idle (R78, step 6; R85) -/
  | idle
deriving DecidableEq, Repr

/-- Step 5(c) of R78: the oldest WAITING note or the head of the Event Queue, by the turn bit when both
wait (R82). -/
def State.chooseShared (s : State) : Choice :=
  match s.notes.oldestWaiting, s.queueHead with
  | none, none => .idle
  | some (k, n), none => .note k n
  | none, some m => .event m
  | some (k, n), some m =>
    match s.arbiter.turn with
    | .note => .note k n
    | .event => .event m

/-- Step 5 of R78: a new sequenced frame, if the Window has room. -/
def State.chooseGrant (s : State) : Choice :=
  if s.window.records.length < s.session.agreed.toNat then
    match s.replies with
    | r :: _ => .reply r
    | [] =>
      match s.queue[3] with
      | m :: _ => .event m
      | [] => s.chooseShared
  else .idle

/-- The record the resend point names. -/
def State.resendRecord (s : State) : Option FrameRecord := s.arbiter.resend.bind s.window.record

/-- The choice in ACTIVE (R78). -/
def State.chooseActive (s : State) : Choice :=
  if s.arbiter.finalHelloDue then .finalHello
  else
    match s.arbiter.nakDue with
    | some n => .nak n
    | none =>
      match s.arbiter.ackDue with
      | some n => .ack n
      | none =>
        match s.resendRecord with
        | some r => .resend r
        | none => s.chooseGrant

/-- The choice by link state (R78, R84, R85). -/
def State.choose (s : State) : Choice :=
  match s.session.link with
  | .active => s.chooseActive
  | .greeting => if s.arbiter.helloDue then .hello else .sync
  | .syncing => .sync
  | .disabled | .failed => .idle

/-- A frame enters the Window with the next outbound sequence number and begins its first transmission
(R81, R125). -/
def State.grant (s : State) (b : Body) : State :=
  (s.setWindow { s.window with
    records := s.window.records ++ [{ seq := s.window.next, body := b }],
    next := s.window.next + 1 }).setTx (some (.sequenced { seq := s.window.next, body := b }))

/-- The grant of the head of the Event Queue: its source is SENT, EVENTS_SENT counts (R47, R73, R81). -/
def State.grantEvent (s : State) (m : Message) : State :=
  let t := s.setQueue s.queue.dropHead
  let t := t.setSrc m.source { t.src m.source with state := .sent }
  (t.grant (.event m)).count .eventsSent

/-- The grant of the oldest WAITING slot (R161). -/
def State.grantNote (s : State) (k : SlotId) (n : Note) : State :=
  (s.setNotes { s.notes with
    slots := s.notes.slots.set k.val (.inFlight n), order := s.notes.order.tail }).grant (.note k n)

/-- Whether step 5(c) has two candidates, a note and an event of class 0 to 2 (R82). -/
def State.contested (s : State) : Bool :=
  s.notes.oldestWaiting.isSome && s.queueHead.isSome && s.queue[3].isEmpty

/-- The turn bit after a contest names the other (R82). -/
def Turn.other : Turn → Turn
  | .note => .event
  | .event => .note

/-- The turn bit after a grant under step 5(c): changed by a contest alone (R82). -/
def State.passTurn (s : State) (contested : Bool) : State :=
  if contested then s.setArbiter { s.arbiter with turn := s.arbiter.turn.other } else s

/-- The chosen item is taken and its transmission begins (R78 to R85). -/
def State.send (s : State) : Choice → State
  | .sync => s.setTx (some .sync)
  | .hello =>
    (s.setArbiter { s.arbiter with helloDue := false }).setTx
      (some (.hello s.session.heard s.regs.linkCfg.window s.session.localEpoch))
  | .finalHello =>
    (s.setArbiter { s.arbiter with finalHelloDue := false }).setTx
      (some (.hello true s.regs.linkCfg.window s.session.localEpoch))
  | .nak n => (s.setArbiter { s.arbiter with nakDue := none }).setTx (some (.nak n))
  | .ack n => (s.setArbiter { s.arbiter with ackDue := none }).setTx (some (.ack n))
  | .resend r =>
    ((s.setArbiter { s.arbiter with resend := s.window.newer r.seq }).setTx
      (some (.sequenced r))).count .framesResent
  | .reply r => (s.setReplies s.replies.tail).grant (.reply r)
  | .event m => (s.grantEvent m).passTurn s.contested
  | .note k n => (s.grantNote k n).passTurn s.contested
  | .idle => s.setTx none

/-- The end of the item in transmission, if there is one: a sequenced frame reports it (R76, R126). -/
def State.endItem (s : State) : State :=
  match s.tx with
  | some (.sequenced _) => s.endReport.setTx none
  | _ => s.setTx none

/-- A frame boundary: the item in transmission ends, and the Arbiter chooses the next (R76, R78). -/
def State.boundary (s : State) : State := s.endItem.send s.endItem.choose

/-- FRAME_BOUNDARY (R76 to R85, R126). -/
def execFrameBoundary (s : State) : Host.Outcome State Fault Refusal :=
  .next (s.unlessReset State.boundary)

end Sys2Proof.Machine
end

