-- ==== Sys2Proof/Machine/Timers.lean ====
section
/-! DEFINITION. The expiries of the timers (R59, R84, R113, R119, R132). A stopped timer reports no
expiry; when a running one may expire is stated in Safety.lean (assumption log 3). -/

namespace Sys2Proof.Machine

/-- Expiry of a source's holdoff timer (R59). -/
def State.holdoffExpiry (s : State) (n : SourceId) : State :=
  if (s.src n).holdoff.isSome then
    let t := s.setSrc n { s.src n with holdoff := none }
    if (s.src n).sense.isLevel then (t.setSrc n { t.src n with state := .idle }).reevaluate n false
    else t.flushPending n
  else s

/-- Expiry of the greeting interval: HELLO due, and the interval starts again (R84). -/
def State.greetIntervalExpiry (s : State) : State :=
  if s.session.link = .greeting ∧ s.arbiter.greetInterval.isSome then
    s.setArbiter { s.arbiter with helloDue := true, greetInterval := some s.now }
  else s

/-- Expiry of the greeting timeout (R113). -/
def State.greetTimeoutExpiry (s : State) : State :=
  if s.session.link = .greeting ∧ s.session.greetTimeout.isSome then s.enterFailed .greetTimeout else s

/-- Expiry of the restart delay: back to SYNCING without a break (R119). -/
def State.restartDelayExpiry (s : State) : State :=
  if s.session.link = .failed ∧ s.session.restartDelay.isSome then s.leaveLink.enterSyncing.beginSync
  else s

/-- HOLDOFF_EXPIRY (R59). -/
def execHoldoffExpiry (source : SourceId) (s : State) : Host.Outcome State Fault Refusal :=
  .next (s.unlessReset fun s => s.holdoffExpiry source)

/-- ACKNOWLEDGMENT_TIMER_EXPIRY (R132). -/
def execAcknowledgmentTimerExpiry (s : State) : Host.Outcome State Fault Refusal :=
  .next (s.unlessReset State.ackTimerExpiry)

/-- GREETING_INTERVAL_EXPIRY (R84). -/
def execGreetingIntervalExpiry (s : State) : Host.Outcome State Fault Refusal :=
  .next (s.unlessReset State.greetIntervalExpiry)

/-- GREET_TIMEOUT (R113). -/
def execGreetTimeout (s : State) : Host.Outcome State Fault Refusal :=
  .next (s.unlessReset State.greetTimeoutExpiry)

/-- RESTART_DELAY_EXPIRY (R119). -/
def execRestartDelayExpiry (s : State) : Host.Outcome State Fault Refusal :=
  .next (s.unlessReset State.restartDelayExpiry)

end Sys2Proof.Machine
end

