-- ==== Sys2Proof/Machine/Lines.lean ====
section
/-! DEFINITION. The Line Sampler's commands (spec/01, sections 1.1 and 1.2) and the soft requests
(section 1.6). -/

namespace Sys2Proof.Machine

/-- The observed value of a line changes to `level` (R1 to R3): accepted at once without a filter, else
the stability interval starts, starts again, or stops. -/
def State.observe (s : State) (l : LineId) (level : Bool) : State :=
  if (s.line l).observed = level then s.setLine l { s.line l with pin := level }
  else
    let t := s.setLine l { s.line l with pin := level, observed := level }
    if (s.src (lineSource l)).filter = .none then t.acceptLine l
    else if level = (s.line l).accepted then t.setLine l { t.line l with interval := none }
    else t.setLine l { t.line l with interval := some t.now }

/-- Expiry of the stability interval of a line (R3); a stopped interval does not expire. -/
def State.intervalExpiry (s : State) (l : LineId) : State :=
  if (s.line l).interval.isSome then s.acceptLine l else s

/-- OBSERVED_LINE_CHANGE (R1 to R3). During a device reset the pin alone changes: the Line Sampler makes
no acceptance, and takes the pin at the end (R9; assumption log 12). -/
def execObservedLineChange (line : LineId) (level : Bool) (s : State) :
    Host.Outcome State Fault Refusal :=
  .next (if s.inReset then s.setLine line { s.line line with pin := level } else s.observe line level)

/-- STABILITY_INTERVAL_EXPIRY (R3). -/
def execStabilityIntervalExpiry (line : LineId) (s : State) : Host.Outcome State Fault Refusal :=
  .next (s.unlessReset fun s => s.intervalExpiry line)

/-! ### Soft requests (R11 to R14) -/

/-- SOFT_RAISE of soft source k, taken by the Source Table (R12). -/
def State.raiseSoft (s : State) (k : SoftId) : State :=
  if (s.src (softSource k)).sense.isLevel then
    if s.softLevel k then s else (s.setSoftLevel k true).levelChange (softSource k) true
  else s.edgeEvent (softSource k)

/-- SOFT_LOWER of soft source k, taken by the Source Table (R13). -/
def State.lowerSoft (s : State) (k : SoftId) : State :=
  if (s.src (softSource k)).sense.isLevel then
    if s.softLevel k then (s.setSoftLevel k false).levelChange (softSource k) false else s
  else s

/-- The check of a written source number: NOT_SOFT below 32, BAD_SOURCE from 40 (R11). -/
def State.softRequest (s : State) (request : Request) (value : Word) (take : SoftId → State) : State :=
  if value.toNat < 32 then s.refuse request (clampOperand value) .notSoft
  else if h : value.toNat < 40 then take ⟨value.toNat - 32, by omega⟩
  else s.refuse request (clampOperand value) .badSource

/-- A write to SOFT_RAISE (R11, R12). -/
def State.softRaise (s : State) (value : Word) : State := s.softRequest .softRaise value s.raiseSoft

/-- A write to SOFT_LOWER (R11, R13). -/
def State.softLower (s : State) (value : Word) : State := s.softRequest .softLower value s.lowerSoft

end Sys2Proof.Machine
end

