-- ==== Sys2Proof/Machine/Table.lean ====
section
/-! DEFINITION. The Source Table's requests (spec/02): SRC_INDEX, SRC_CONFIG, FORCE_IDLE, TABLE_CLEAR. -/

namespace Sys2Proof.Machine

/-- A write to SRC_INDEX, checked on all 32 bits (R21). -/
def State.writeSrcIndex (s : State) (value : Word) : State :=
  match sourceOf value.toNat with
  | some n => s.setRegs { s.regs with srcIndex := n }
  | none => s.refuse .srcIndex (clampOperand value) .badSource

/-- Whether a SRC_CONFIG write changes a field other than ENABLE (R24). -/
def ConfigWrite.changesOther (w : ConfigWrite) (e : Source) : Bool :=
  w.hold != e.hold || w.vector != e.vector || w.dest != e.dest || w.prio != e.prio ||
    w.remote != e.remote || w.filter != e.filter || w.senseCode != e.sense.code

/-- Whether SRC_CONFIG is refused with CFG_BUSY (R24). -/
def ConfigWrite.busy (w : ConfigWrite) (e : Source) : Bool :=
  e.state != .idle || (e.enable && w.changesOther e)

/-- The sense a SRC_CONFIG write gives source n, if the values of the write are in range (R26). -/
def ConfigWrite.checkedSense (w : ConfigWrite) (n : SourceId) : Option Sense :=
  match Sense.ofCode w.senseCode with
  | none => none
  | some sense =>
    if 32 ≤ n.val ∧ sense ≠ .levelHigh ∧ sense ≠ .rising then none
    else if w.enable ∧ ¬(1 ≤ w.vector.toNat ∧ w.vector.toNat ≤ 250) then none
    else some sense

/-- The entry with the configuration fields of a write (R27). -/
def ConfigWrite.apply (w : ConfigWrite) (sense : Sense) (e : Source) : Source :=
  { e with
    enable := w.enable, sense := sense, filter := w.filter, vector := w.vector, dest := w.dest,
    prio := w.prio, hold := w.hold, remote := w.remote }

/-- Recomputation of the line of a line source whose SENSE or FILTER a write changed (R7). -/
def State.recomputeIfChanged (s : State) (n : SourceId) (before : Source) : State :=
  if h : n.val < 32 then
    if (s.src n).sense ≠ before.sense ∨ (s.src n).filter ≠ before.filter then s.recomputeLine ⟨n.val, h⟩
    else s
  else s

/-- A SRC_CONFIG write that is taken (R27). -/
def State.takeConfig (s : State) (n : SourceId) (w : ConfigWrite) (sense : Sense) : State :=
  let t := (s.setSrc n (w.apply sense (s.src n))).recomputeIfChanged n (s.src n)
  if !(s.src n).enable && w.enable then t.reevaluate n false else t

/-- A write to SRC_CONFIG of the selected entry (R24 to R27); CFG_BUSY is decided first. -/
def State.writeSrcConfig (s : State) (value : Word) : State :=
  let n := s.regs.srcIndex
  let w := ConfigWrite.ofWord value
  if w.busy (s.src n) then s.refuse .srcConfig (BitVec.ofNat 16 n.val) .cfgBusy
  else
    match w.checkedSense n with
    | none => s.refuse .srcConfig (BitVec.ofNat 16 n.val) .badValue
    | some sense => s.takeConfig n w sense

/-- FORCE_IDLE of a source the operand names (R34). -/
def State.forceIdleSource (s : State) (n : SourceId) (operand : Byte) : State :=
  match (s.src n).state with
  | .idle | .queued | .sent => s.refuse .forceIdle (operand.setWidth 16) .cfgBusy
  | .delivered =>
    ((s.setDelivered (s.delivered.filter fun m => m ≠ n)).setSrc n
      { s.src n with state := .idle }).reevaluate n false
  | .holdoff =>
    (s.setSrc n { s.src n with
      state := .idle, holdoff := none, pending := 0, pendOvr := false }).reevaluate n false

/-- FORCE_IDLE (R34). -/
def State.forceIdle (s : State) (operand : Byte) : State :=
  match sourceOf operand.toNat with
  | none => s.refuse .forceIdle (operand.setWidth 16) .badSource
  | some n => s.forceIdleSource n operand

/-- What TABLE_CLEAR does with one entry: masked, nothing pending, out of QUEUED and HOLDOFF (R36). -/
def Source.cleared (e : Source) : Source :=
  { e with
    mask := true, pending := 0, pendOvr := false, holdoff := none,
    state := if e.state = .queued ∨ e.state = .holdoff then .idle else e.state }

/-- TABLE_CLEAR (R36): refused in ACTIVE; EVENTS_WITHDRAWN rises by the number of messages. -/
def State.tableClear (s : State) : State :=
  if s.session.link = .active then s.refuse .tableClear 0 .linkBusy
  else
    ((s.countN s.queueDepth .eventsWithdrawn).setSources (s.sources.map Source.cleared)).setQueue
      (Vector.replicate 4 [])

end Sys2Proof.Machine
end

