-- ==== Sys2Proof/Machine/RegisterWindow.lean ====
section
/-! DEFINITION. The Register Window (spec/11): what each register reads as, what a write to each does,
and an access of the local bus, which waits while a device reset is in effect (R178, R188). -/

namespace Sys2Proof.Machine

/-! ### Reads -/

/-- SRC_STATUS of a source: 15:8 PENDING; 6 PEND_OVR; 5 qualified level; 4 ENABLE; 3 MASK; 2:0 STATE
(R22). -/
def State.statusWord (s : State) (n : SourceId) : Word :=
  (0 : BitVec 16) ++ (s.src n).pending ++ (0 : BitVec 1) ++ bit1 (s.src n).pendOvr ++
    bit1 (s.qualified n) ++ bit1 (s.src n).enable ++ bit1 (s.src n).mask ++ (s.src n).state.code

/-- MASK_LO: bit n is the MASK of source n (R33). -/
def State.maskLoWord (s : State) : Word :=
  (List.finRange 32).foldl (fun w n => if (s.src (lineSource n)).mask then w ||| (1#32 <<< n.val) else w) 0

/-- MASK_HI: bit n is the MASK of source 32 + n (R33). -/
def State.maskHiWord (s : State) : Word :=
  (List.finRange 8).foldl (fun w k => if (s.src (softSource k)).mask then w ||| (1#32 <<< k.val) else w) 0

/-- The agreed window as LINK_STATUS shows it: 0 outside ACTIVE (R106). -/
def State.shownWindow (s : State) : BitVec 4 := if s.session.link = .active then s.session.agreed else 0

/-- LINK_STATUS: 23:18 Delivered List length; 17:12 QUEUE_DEPTH; 11:8 Window count; 7:4 agreed window;
2:0 link state (R183). -/
def State.linkStatusWord (s : State) : Word :=
  (0 : BitVec 8) ++ BitVec.ofNat 6 s.delivered.length ++ BitVec.ofNat 6 s.queueDepth ++
    BitVec.ofNat 4 s.window.records.length ++ s.shownWindow ++ (0 : BitVec 1) ++ s.session.link.code

/-- LINK_EPOCHS: 15:8 peer epoch; 7:0 local epoch, as captured (R183). -/
def State.linkEpochsWord (s : State) : Word := (0 : BitVec 16) ++ s.regs.epochPeer ++ s.regs.epochLocal

/-- LINK_FAULT: 15:8 FAULT_COUNT; 2:0 fault cause (R121). -/
def State.linkFaultWord (s : State) : Word :=
  (0 : BitVec 16) ++ s.session.faultCount ++ (0 : BitVec 5) ++ s.session.faultCause.code

/-- The number of slots in each state (R159). -/
def NoteUnit.countSlots (u : NoteUnit) (p : Slot → Bool) : Nat := u.slots.toList.countP p

/-- NOTE_OUT_CTRL: 26:24 IN_FLIGHT, 22:20 WAITING, 18:16 FREE count; 11:8 length; 7:0 tag (R159). -/
def NoteUnit.ctrlWord (u : NoteUnit) : Word :=
  (0 : BitVec 5) ++ BitVec.ofNat 3 (u.countSlots Slot.isInFlight) ++ (0 : BitVec 1) ++
    BitVec.ofNat 3 (u.countSlots Slot.isWaiting) ++ (0 : BitVec 1) ++
    BitVec.ofNat 3 (u.countSlots fun x => x = .free) ++ (0 : BitVec 4) ++ u.outLength ++ u.outTag

/-- NOTE_IN_HEAD: 18:16 count; 11:8 length; 7:0 tag; 0 with the FIFO empty (R167). -/
def NoteUnit.headWord (u : NoteUnit) : Word :=
  match u.fifo with
  | [] => 0
  | n :: _ =>
    (0 : BitVec 13) ++ BitVec.ofNat 3 u.fifo.length ++ (0 : BitVec 4) ++
      BitVec.ofNat 4 n.data.length ++ n.tag

/-- NOTE_IN_DATA0 and NOTE_IN_DATA1: the head's data bytes 1 to 4 and 5 to 8; 0 beyond the length and
with the FIFO empty (R167). -/
def NoteUnit.inData (u : NoteUnit) (from4 : Bool) : Word :=
  match u.fifo with
  | [] => 0
  | n :: _ => dataWord (if from4 then n.data.drop 4 else n.data)

/-- REFUSE_INFO: 31:16 operand; 11:8 reason; 7:0 request (R181). -/
def RefuseInfo.word (r : RefuseInfo) : Word := r.operand ++ (0 : BitVec 4) ++ r.reason.code ++ r.request

/-- UNMATCHED_INFO: 13:12 reason; 8 OLDEST; 7:0 vector (R151). -/
def UnmatchedInfo.word (u : UnmatchedInfo) : Word :=
  (0 : BitVec 18) ++ u.reason.code ++ (0 : BitVec 3) ++ bit1 u.oldest ++ u.vector

/-- REMOTE_INFO: 9:8 op; 5:0 source (R172). -/
def RemoteInfo.word (r : RemoteInfo) : Word :=
  (0 : BitVec 22) ++ r.op.code ++ (0 : BitVec 2) ++ BitVec.ofNat 6 r.source.val

/-- What a read of a register returns, as the state stands (R178 and each register's rule); undefined
offsets and write-action registers read 0. -/
def State.readRegister (s : State) : Register → Word
  | .id => Config.idValue
  | .srcIndex => BitVec.ofNat 32 s.regs.srcIndex.val
  | .srcConfig => (s.src s.regs.srcIndex).configWord
  | .srcStatus => s.statusWord s.regs.srcIndex
  | .maskLo => s.maskLoWord
  | .maskHi => s.maskHiWord
  | .maskSetLo | .maskSetHi | .maskClrLo | .maskClrHi | .softRaise | .softLower | .cmd => 0
  | .linkCfg => s.regs.linkCfg.word
  | .linkStatus => s.linkStatusWord
  | .linkEpochs => s.linkEpochsWord
  | .linkFault => s.linkFaultWord
  | .noteOutCtrl => s.notes.ctrlWord
  | .noteOutData0 => s.notes.outData0
  | .noteOutData1 => s.notes.outData1
  | .noteInHead => s.notes.headWord
  | .noteInData0 => s.notes.inData false
  | .noteInData1 => s.notes.inData true
  | .cause => s.regs.cause.setWidth 32
  | .causeEn => s.regs.causeEn.setWidth 32
  | .refuseInfo => s.regs.refuse.word
  | .unmatchedInfo => s.regs.unmatched.word
  | .remoteInfo => s.regs.remote.word
  | .resetCause => s.regs.resetCause.code.setWidth 32
  | .eventsSent => s.regs.stats.eventsSent
  | .framesResent => s.regs.stats.framesResent
  | .badFrames => s.regs.stats.badFrames
  | .eventsWithdrawn => s.regs.stats.eventsWithdrawn
  | .completionsUnmatched => s.regs.stats.completionsUnmatched
  | .inboundDuplicates => s.regs.stats.inboundDuplicates
  | .inboundDeferred => s.regs.stats.inboundDeferred
  | .sessions => s.regs.stats.sessions
  | .undefined => 0

/-- The state after a read of a register: LINK_STATUS captures the epochs (R183), LINK_FAULT clears
(R121), every other read changes nothing (R178). -/
def State.afterRead (s : State) : Register → State
  | .linkStatus => s.setRegs { s.regs with
      epochLocal := s.session.localEpoch, epochPeer := s.session.peerEpoch }
  | .linkFault => s.setSession { s.session with faultCause := .none, faultCount := 0 }
  | _ => s

/-- A read taken: its data on D31 to D0 and its effect, against the state as it stands (R178). -/
def State.takeRead (s : State) (r : Register) : State :=
  (s.afterRead r).setBus { s.bus with readData := s.readRegister r }

/-! ### Writes -/

/-- LINK_CFG written: LINK_BUSY outside DISABLED, then the value check (R182). -/
def State.writeLinkCfg (s : State) (value : Word) : State :=
  if s.session.link ≠ .disabled then s.refuse .linkCfg 0 .linkBusy
  else if (LinkCfg.ofWord value).valid then
    s.setRegs { s.regs with linkCfg := LinkCfg.ofWord value }
  else s.refuse .linkCfg 0 .badValue

/-- CAUSE written: each flag whose bit is 1 is cleared (R184). -/
def State.writeCause (s : State) (value : Word) : State :=
  s.setRegs { s.regs with cause := s.regs.cause &&& ~~~(value.extractLsb' 0 8) }

/-- CAUSE_EN written (R185). -/
def State.writeCauseEn (s : State) (value : Word) : State :=
  s.setRegs { s.regs with causeEn := value.extractLsb' 0 8 }

/-- MASK_SET_LO and MASK_SET_HI: one mask set request for each source named (R29, R30). -/
def State.maskSetAll (s : State) (ns : List SourceId) : State := ns.foldl State.maskSet s

/-- STATS_CLEAR (R187). -/
def State.statsClear (s : State) : State := s.setRegs { s.regs with stats := Stats.zero }

/-- A CMD write whose code names no command (R180, R181). -/
def State.refuseCommand (s : State) (code : Byte) : State :=
  s.refuse .unknown (code.setWidth 16) .badValue

/-- A command by its code and operand (R180). -/
def State.command (s : State) (code operand : Byte) : State :=
  match code.toNat with
  | 0x01 => s.forceIdle operand
  | 0x02 => s.tableClear
  | 0x03 => s.noteSend
  | 0x04 => s.notePop
  | 0x05 => s.noteFlush
  | 0x06 => s.linkEnable
  | 0x07 => s.linkDisable
  | 0x08 => s.linkRestart
  | 0x09 => s.statsClear
  | 0x0A => s.enterReset .command
  | _ => s.refuseCommand code

/-- A write taken by a register (R178 and each register's rule): a read-only register and an undefined
offset ignore it. -/
def State.takeWrite (s : State) (value : Word) : Register → State
  | .srcIndex => s.writeSrcIndex value
  | .srcConfig => s.writeSrcConfig value
  | .maskSetLo => s.maskSetAll (sourcesLo value)
  | .maskSetHi => s.maskSetAll (sourcesHi value)
  | .maskClrLo => s.maskClearAll (sourcesLo value)
  | .maskClrHi => s.maskClearAll (sourcesHi value)
  | .softRaise => s.softRaise value
  | .softLower => s.softLower value
  | .cmd => s.command (cmdCode value) (cmdOperand value)
  | .linkCfg => s.writeLinkCfg value
  | .noteOutCtrl => s.setNotes { s.notes with outTag := noteCtrlTag value, outLength := noteCtrlLength value }
  | .noteOutData0 => s.setNotes { s.notes with outData0 := value }
  | .noteOutData1 => s.setNotes { s.notes with outData1 := value }
  | .cause => s.writeCause value
  | .causeEn => s.writeCauseEn value
  | .id | .srcStatus | .maskLo | .maskHi | .linkStatus | .linkEpochs | .linkFault
  | .noteInHead | .noteInData0 | .noteInData1 | .refuseInfo | .unmatchedInfo | .remoteInfo
  | .resetCause | .eventsSent | .framesResent | .badFrames | .eventsWithdrawn
  | .completionsUnmatched | .inboundDuplicates | .inboundDeferred | .sessions | .undefined => s

/-! ### Accesses -/

/-- What an access does when it is taken. -/
def State.takeAccess (s : State) : Access → State
  | .read addr => s.takeRead (Register.ofAddr addr)
  | .write addr value => s.takeWrite value (Register.ofAddr addr)

/-- RDY driven active: the access is complete (R178). -/
def State.complete (s : State) : State := s.setBus { s.bus with ready := true }

/-- An access that waits for the end of the device reset, RDY inactive (R188; assumption log 7). -/
def State.hold (s : State) (a : Access) : State :=
  s.setBus { s.bus with waiting := s.bus.waiting ++ [a], ready := false }

/-- An access made on the local bus: taken whole and completed, unless a device reset is in effect, when
it waits (R178, R188). `take` is what the access does when taken. -/
def State.onBus (s : State) (a : Access) (take : State → State) : State :=
  if s.inReset then s.hold a else (take s).complete

/-- The accesses that waited are taken in order; after a DEVICE_RESET among them the rest wait again
(R178, R188, R189). -/
def State.serveWaiting (s : State) (as : List Access) : State :=
  as.foldl (fun t a => t.onBus a fun u => u.takeAccess a) s

/-! ### Meanings: registers -/

/-- SRC_INDEX_WRITE (R21). -/
def execSrcIndexWrite (value : Word) (s : State) : Host.Outcome State Fault Refusal :=
  .next (s.onBus (.write 0x04#8 value) fun s => s.writeSrcIndex value)

/-- SRC_CONFIG_WRITE (R24 to R27). -/
def execSrcConfigWrite (value : Word) (s : State) : Host.Outcome State Fault Refusal :=
  .next (s.onBus (.write 0x08#8 value) fun s => s.writeSrcConfig value)

/-- MASK_SET_LO (R29, R30). -/
def execMaskSetLo (value : Word) (s : State) : Host.Outcome State Fault Refusal :=
  .next (s.onBus (.write 0x18#8 value) fun s => s.maskSetAll (sourcesLo value))

/-- MASK_SET_HI (R29, R30). -/
def execMaskSetHi (value : Word) (s : State) : Host.Outcome State Fault Refusal :=
  .next (s.onBus (.write 0x1C#8 value) fun s => s.maskSetAll (sourcesHi value))

/-- MASK_CLR_LO (R29, R31). -/
def execMaskClrLo (value : Word) (s : State) : Host.Outcome State Fault Refusal :=
  .next (s.onBus (.write 0x20#8 value) fun s => s.maskClearAll (sourcesLo value))

/-- MASK_CLR_HI (R29, R31). -/
def execMaskClrHi (value : Word) (s : State) : Host.Outcome State Fault Refusal :=
  .next (s.onBus (.write 0x24#8 value) fun s => s.maskClearAll (sourcesHi value))

/-- SOFT_RAISE (R11, R12). -/
def execSoftRaise (value : Word) (s : State) : Host.Outcome State Fault Refusal :=
  .next (s.onBus (.write 0x28#8 value) fun s => s.softRaise value)

/-- SOFT_LOWER (R11, R13). -/
def execSoftLower (value : Word) (s : State) : Host.Outcome State Fault Refusal :=
  .next (s.onBus (.write 0x2C#8 value) fun s => s.softLower value)

/-- LINK_CFG_WRITE (R182). -/
def execLinkCfgWrite (value : Word) (s : State) : Host.Outcome State Fault Refusal :=
  .next (s.onBus (.write 0x34#8 value) fun s => s.writeLinkCfg value)

/-- LINK_STATUS_READ (R183). -/
def execLinkStatusRead (s : State) : Host.Outcome State Fault Refusal :=
  .next (s.onBus (.read 0x38#8) fun s => s.takeRead .linkStatus)

/-- LINK_FAULT_READ (R121). -/
def execLinkFaultRead (s : State) : Host.Outcome State Fault Refusal :=
  .next (s.onBus (.read 0x40#8) fun s => s.takeRead .linkFault)

/-- CAUSE_WRITE (R184). -/
def execCauseWrite (value : Word) (s : State) : Host.Outcome State Fault Refusal :=
  .next (s.onBus (.write 0x5C#8 value) fun s => s.writeCause value)

/-- CAUSE_EN_WRITE (R185). -/
def execCauseEnWrite (value : Word) (s : State) : Host.Outcome State Fault Refusal :=
  .next (s.onBus (.write 0x60#8 value) fun s => s.writeCauseEn value)

/-- REGISTER_WRITE (R178): the write as its register takes it. At the address of a register with a row
of its own it is that row's write (assumption log 9). -/
def execRegisterWrite (addr : Byte) (value : Word) (s : State) : Host.Outcome State Fault Refusal :=
  .next (s.onBus (.write addr value) fun s => s.takeWrite value (Register.ofAddr addr))

/-! ### Meanings: commands (R180) -/

/-- FORCE_IDLE (R34). -/
def execForceIdle (operand : Byte) (s : State) : Host.Outcome State Fault Refusal :=
  .next (s.onBus (.write 0x30#8 (cmdWord 0x01#8 operand)) fun s => s.forceIdle operand)

/-- TABLE_CLEAR (R36). -/
def execTableClear (operand : Byte) (s : State) : Host.Outcome State Fault Refusal :=
  .next (s.onBus (.write 0x30#8 (cmdWord 0x02#8 operand)) State.tableClear)

/-- NOTE_SEND (R160). -/
def execNoteSend (operand : Byte) (s : State) : Host.Outcome State Fault Refusal :=
  .next (s.onBus (.write 0x30#8 (cmdWord 0x03#8 operand)) State.noteSend)

/-- NOTE_POP (R168). -/
def execNotePop (operand : Byte) (s : State) : Host.Outcome State Fault Refusal :=
  .next (s.onBus (.write 0x30#8 (cmdWord 0x04#8 operand)) State.notePop)

/-- NOTE_FLUSH (R163). -/
def execNoteFlush (operand : Byte) (s : State) : Host.Outcome State Fault Refusal :=
  .next (s.onBus (.write 0x30#8 (cmdWord 0x05#8 operand)) State.noteFlush)

/-- LINK_ENABLE (R107). -/
def execLinkEnable (operand : Byte) (s : State) : Host.Outcome State Fault Refusal :=
  .next (s.onBus (.write 0x30#8 (cmdWord 0x06#8 operand)) State.linkEnable)

/-- LINK_DISABLE (R108). -/
def execLinkDisable (operand : Byte) (s : State) : Host.Outcome State Fault Refusal :=
  .next (s.onBus (.write 0x30#8 (cmdWord 0x07#8 operand)) State.linkDisable)

/-- LINK_RESTART (R109). -/
def execLinkRestart (operand : Byte) (s : State) : Host.Outcome State Fault Refusal :=
  .next (s.onBus (.write 0x30#8 (cmdWord 0x08#8 operand)) State.linkRestart)

/-- STATS_CLEAR (R187). -/
def execStatsClear (operand : Byte) (s : State) : Host.Outcome State Fault Refusal :=
  .next (s.onBus (.write 0x30#8 (cmdWord 0x09#8 operand)) State.statsClear)

/-- DEVICE_RESET (R189): the write completes, and the device is in reset. -/
def execDeviceReset (operand : Byte) (s : State) : Host.Outcome State Fault Refusal :=
  .next (s.onBus (.write 0x30#8 (cmdWord 0x0A#8 operand)) fun s => s.enterReset .command)

/-- UNKNOWN_COMMAND (R180): refused with BAD_VALUE. With a code that names a command it is that
command's CMD write (assumption log 9). -/
def execUnknownCommand (code operand : Byte) (s : State) : Host.Outcome State Fault Refusal :=
  .next (s.onBus (.write 0x30#8 (cmdWord code operand)) fun s => s.command code operand)

/-! ### Meanings: device reset (section 11.7) -/

/-- RST_N driven low (R188): reset with cause PIN, a command reset in progress included (R189). -/
def execRstN (s : State) : Host.Outcome State Fault Refusal := .next (s.enterReset .pin)

/-- POWER_UP (R188): reset with cause PIN. -/
def execPowerUp (s : State) : Host.Outcome State Fault Refusal := .next (s.enterReset .pin)

/-- The end of a device reset: the lines take the pins without reports (R9), RESET_CAUSE is recorded
(R188, R189), and the accesses that waited are taken against the reset values. -/
def State.endReset (s : State) : State :=
  match s.resetting with
  | none => s
  | some cause =>
    let t := s.setLines (s.lines.map fun l => Line.reset l.pin)
    let t := t.setRegs { t.regs with resetCause := cause }
    ((t.setResetting none).setBus { t.bus with waiting := [] }).serveWaiting t.bus.waiting

/-- RESET_END (R9, R188, R189). -/
def execResetEnd (s : State) : Host.Outcome State Fault Refusal := .next s.endReset

end Sys2Proof.Machine
end

