-- ==== Sys2Proof/Machine/Dispatch.lean ====
section
/-! DEFINITION. One arm per command of spec/opcode_table.json. -/

namespace Sys2Proof.Machine

def exec (i : Instr) (s : State) : Host.Outcome State Fault Refusal :=
  match i with
  | .observedLineChange line level => Sys2Proof.Machine.execObservedLineChange line level s
  | .stabilityIntervalExpiry line => Sys2Proof.Machine.execStabilityIntervalExpiry line s
  | .srcIndexWrite value => Sys2Proof.Machine.execSrcIndexWrite value s
  | .srcConfigWrite value => Sys2Proof.Machine.execSrcConfigWrite value s
  | .maskSetLo value => Sys2Proof.Machine.execMaskSetLo value s
  | .maskSetHi value => Sys2Proof.Machine.execMaskSetHi value s
  | .maskClrLo value => Sys2Proof.Machine.execMaskClrLo value s
  | .maskClrHi value => Sys2Proof.Machine.execMaskClrHi value s
  | .softRaise value => Sys2Proof.Machine.execSoftRaise value s
  | .softLower value => Sys2Proof.Machine.execSoftLower value s
  | .forceIdle operand => Sys2Proof.Machine.execForceIdle operand s
  | .tableClear operand => Sys2Proof.Machine.execTableClear operand s
  | .noteSend operand => Sys2Proof.Machine.execNoteSend operand s
  | .notePop operand => Sys2Proof.Machine.execNotePop operand s
  | .noteFlush operand => Sys2Proof.Machine.execNoteFlush operand s
  | .linkEnable operand => Sys2Proof.Machine.execLinkEnable operand s
  | .linkDisable operand => Sys2Proof.Machine.execLinkDisable operand s
  | .linkRestart operand => Sys2Proof.Machine.execLinkRestart operand s
  | .statsClear operand => Sys2Proof.Machine.execStatsClear operand s
  | .deviceReset operand => Sys2Proof.Machine.execDeviceReset operand s
  | .unknownCommand code operand => Sys2Proof.Machine.execUnknownCommand code operand s
  | .linkCfgWrite value => Sys2Proof.Machine.execLinkCfgWrite value s
  | .linkStatusRead => Sys2Proof.Machine.execLinkStatusRead s
  | .linkFaultRead => Sys2Proof.Machine.execLinkFaultRead s
  | .causeWrite value => Sys2Proof.Machine.execCauseWrite value s
  | .causeEnWrite value => Sys2Proof.Machine.execCauseEnWrite value s
  | .registerWrite addr value => Sys2Proof.Machine.execRegisterWrite addr value s
  | .rstN => Sys2Proof.Machine.execRstN s
  | .powerUp => Sys2Proof.Machine.execPowerUp s
  | .resetEnd => Sys2Proof.Machine.execResetEnd s
  | .character c => Sys2Proof.Machine.execCharacter c s
  | .characterGap => Sys2Proof.Machine.execCharacterGap s
  | .lineBreak => Sys2Proof.Machine.execLineBreak s
  | .hello heard revision window epoch role => Sys2Proof.Machine.execHello heard revision window epoch role s
  | .ack number => Sys2Proof.Machine.execAck number s
  | .nak number => Sys2Proof.Machine.execNak number s
  | .complete seq oldest vector => Sys2Proof.Machine.execComplete seq oldest vector s
  | .note seq tag data => Sys2Proof.Machine.execNote seq tag data s
  | .control seq tag op first count => Sys2Proof.Machine.execControl seq tag op first count s
  | .frameBoundary => Sys2Proof.Machine.execFrameBoundary s
  | .holdoffExpiry source => Sys2Proof.Machine.execHoldoffExpiry source s
  | .acknowledgmentTimerExpiry => Sys2Proof.Machine.execAcknowledgmentTimerExpiry s
  | .greetingIntervalExpiry => Sys2Proof.Machine.execGreetingIntervalExpiry s
  | .greetTimeout => Sys2Proof.Machine.execGreetTimeout s
  | .restartDelayExpiry => Sys2Proof.Machine.execRestartDelayExpiry s

end Sys2Proof.Machine
end

