-- ==== Sys2Proof/Machine/Step.lean ====
section
/-! DEFINITION. One step: the command at the front of the queue; on an empty queue one REFCLK period
passes and nothing else happens (assumption log 4). -/

namespace Sys2Proof.Machine

/-- The queue without its front command. -/
def State.popPending (s : State) (rest : List Instr) : State := s.setPending rest

/-- An idle step: the model's clock counts one period (assumption log 4). -/
def State.tick (s : State) : State := s.setNow (s.now + 1)

/-- One step of the machine. -/
def step (s : State) : Host.Outcome State Fault Refusal :=
  match s.pending with
  | [] => .next s.tick
  | c :: rest => exec c (s.popPending rest)

/-- The state with the command a table word spells at the front of its queue; no word spells one. -/
def State.withFetchWord (s : State) (nbits w : Nat) : State :=
  match Sys2Proof.decodeTableWord nbits w with
  | none => s
  | some c => s.setPending (c :: s.pending)

end Sys2Proof.Machine
end

