-- ==== Sys2Proof/Safety.lean ====
section
/-! DEFINITION. What a run of the machine is, when the expiry of a timer is in time, and the laws of the
device that every step keeps, stated as predicates of a state. Nothing here changes what a step does. -/

namespace Sys2Proof.Machine

/-! ### Runs -/

/-- `k` steps from `s` all answer a next state: the machine does not stop. -/
def State.runs : Nat → State → Prop
  | 0, _ => True
  | k + 1, s => ∃ t, step s = .next t ∧ State.runs k t

/-! ### Timers in time (assumption log 3)

The spec lets each expiry come in a window of 10 µs or less. `exec` takes an expiry whenever its timer
runs; a claim about real time takes these predicates as premises. -/

/-- A timer started for `length` periods may expire now: no earlier than its length after the start and no
later than one timebase after that (R3, R58, R84, R113, R119, R131). -/
def Timer.mayExpire (t : Timer) (length now : Nat) : Prop :=
  ∃ start, t = some start ∧ start + length ≤ now ∧ now ≤ start + length + Config.timebase

/-- Whether an expiry command at the front of the queue comes in its window. Other commands are always in
time. -/
def State.timely (s : State) : Instr → Prop
  | .stabilityIntervalExpiry l =>
    Timer.mayExpire (s.line l).interval (s.src (lineSource l)).filter.time s.now
  | .holdoffExpiry n =>
    Timer.mayExpire (s.src n).holdoff ((s.src n).hold.toNat * Config.holdUnit) s.now
  | .acknowledgmentTimerExpiry =>
    Timer.mayExpire s.window.timer (s.regs.linkCfg.tack.toNat * Config.ackUnit) s.now
  | .greetingIntervalExpiry => Timer.mayExpire s.arbiter.greetInterval Config.greetInterval s.now
  | .greetTimeout => Timer.mayExpire s.session.greetTimeout Config.greetMax s.now
  | .restartDelayExpiry => Timer.mayExpire s.session.restartDelay Config.restartDelay s.now
  | _ => True

/-! ### What the collections hold -/

/-- The source of an EVENT record. -/
def Body.eventSource : Body → Option SourceId
  | .event m => some m.source
  | .note _ _ => none
  | .reply _ => none

/-- The message of an EVENT record. -/
def Body.message : Body → Option Message
  | .event m => some m
  | .note _ _ => none
  | .reply _ => none

/-- The slot of a NOTE record. -/
def Body.noteSlot : Body → Option SlotId
  | .event _ => none
  | .note k _ => some k
  | .reply _ => none

/-- The slot of a NOTE record with its note. -/
def Body.slotNote : Body → Option (SlotId × Note)
  | .event _ => none
  | .note k n => some (k, n)
  | .reply _ => none

/-- The note that a slot holds. -/
def Slot.note : Slot → Option Note
  | .free => none
  | .waiting n => some n
  | .inFlight n => some n

/-- The sources of the queued messages. -/
def State.queuedSources (s : State) : List SourceId := s.queue.messages.map (·.source)

/-- The sources of the EVENT records of the Window, oldest first. -/
def State.sentSources (s : State) : List SourceId :=
  s.window.records.filterMap fun r => r.body.eventSource

/-- The messages of the EVENT records of the Window, oldest first. -/
def State.flyingMessages (s : State) : List Message :=
  s.window.records.filterMap fun r => r.body.message

/-- The slots of the NOTE records of the Window, oldest first. -/
def State.flyingSlots (s : State) : List SlotId :=
  s.window.records.filterMap fun r => r.body.noteSlot

/-- What the transmitter may be sending in a link state (R76, R84 to R86). -/
def Link.mayBeSending : Link → Option Item → Bool
  | .disabled, t => t = none
  | .syncing, some .sync | .syncing, some .brk | .syncing, some (.hello ..) => true
  | .syncing, _ => false
  | .greeting, some .sync | .greeting, some .brk | .greeting, some (.hello ..) => true
  | .greeting, _ => false
  | .active, _ => true
  | .failed, t => t = none || t = some .brk

/-! ### Laws of the device

Each is kept by every step, alone or with those it names; the obligations say so. -/

/-- R182: the fields of LINK_CFG in force are values a write may hold. -/
abbrev State.CfgLaw (s : State) : Prop := s.regs.linkCfg.valid = true

/-- R158, R166, R169: at most 4 inbound records and 2 replies; a note has 1 to 8 data bytes, and a reply
at most 8 records. -/
abbrev State.BoundsLaw (s : State) : Prop :=
  s.notes.fifo.length ≤ Config.fifoSize ∧ s.replies.length ≤ Config.replyQueueSize ∧
    (∀ n ∈ s.notes.fifo, 1 ≤ n.data.length ∧ n.data.length ≤ 8) ∧
    (∀ r ∈ s.replies, r.records.length ≤ 8)

/-- R3, R4: the stability interval runs exactly while the observed value differs from the accepted one,
and with FILTER NONE it stands stopped; outside a reset the observed value is the pin's. -/
abbrev State.LineLaw (s : State) : Prop :=
  (∀ l : LineId, ((s.line l).interval.isSome ↔ (s.line l).observed ≠ (s.line l).accepted) ∧
    ((s.src (lineSource l)).filter = .none → (s.line l).interval = none)) ∧
  (s.resetting = none → ∀ l : LineId, (s.line l).observed = (s.line l).pin)

/-- R84, R106, R108 to R119: each timer of the greeting and of FAILED runs exactly in its link state; the
SYNC count is below 4, and 0 outside SYNCING; the agreed window is at most 8, is 0 outside GREETING and
ACTIVE, and is 1 or more exactly once a HELLO has been recorded. -/
abbrev State.SessionLaw (s : State) : Prop :=
  (s.session.greetTimeout.isSome ↔ s.session.link = .greeting) ∧
  (s.arbiter.greetInterval.isSome ↔ s.session.link = .greeting) ∧
  (s.arbiter.helloDue = true → s.session.link = .greeting) ∧
  (s.session.restartDelay.isSome ↔ s.session.link = .failed ∧ s.regs.linkCfg.auto = true) ∧
  s.session.syncCount < Config.syncsWanted ∧
  (s.session.link ≠ .syncing → s.session.syncCount = 0) ∧
  s.session.agreed.toNat ≤ Config.maxWindow ∧
  (s.session.link ≠ .greeting → s.session.link ≠ .active → s.session.agreed = 0) ∧
  (s.session.link = .greeting → (s.session.heard = true ↔ s.session.agreed ≠ 0)) ∧
  (s.session.link = .active → s.session.agreed ≠ 0) ∧
  (s.session.faultCause = .none → s.session.faultCount = 0)

/-- R76, R84 to R86: the transmitter sends what the link state lets it send. -/
abbrev State.TxLaw (s : State) : Prop := s.session.link.mayBeSending s.tx = true

/-- R100, R102: a frame is in COLLECT only in GREETING and ACTIVE; its length is absent up to the third
character and then 0 to 27; it has fewer characters than it will have; while no character was in error,
every character after the SOF has its value. -/
abbrev State.AssemblyLaw (s : State) : Prop :=
  ∀ a ∈ s.receiver.assembly,
    (s.session.link = .greeting ∨ s.session.link = .active) ∧ 1 ≤ a.received ∧
    (a.len = none → a.received ≤ 3) ∧
    (∀ l ∈ a.len, l ≤ Config.maxPayload ∧ 4 ≤ a.received ∧ a.received < 6 + l) ∧
    (a.errorMark = false → a.bytes.length + 1 = a.received)

/-- R124: the records' numbers are consecutive, and the next number follows the newest. -/
abbrev Window.consecutive (w : Window) : Prop :=
  ∀ i : Fin w.records.length, (w.records[i]).seq + BitVec.ofNat 6 (w.records.length - i.val) = w.next

/-- R77, R105, R117, R124, R130, R133, R135, R137: the Window's numbers are consecutive; it holds no more
records than the agreed window; the resend point names a record; the timer runs only over records; the
retry count has not passed RETRIES and the consecutive count has not reached 8; and outside ACTIVE
everything that a session holds is empty, stopped or 0. -/
abbrev State.WindowLaw (s : State) : Prop :=
  s.window.consecutive ∧ s.window.records.length ≤ s.session.agreed.toNat ∧
  (∀ n ∈ s.arbiter.resend, ∃ r ∈ s.window.records, r.seq = n) ∧
  (s.window.timer.isSome → s.window.records ≠ []) ∧
  s.window.retry ≤ s.regs.linkCfg.retries.toNat ∧ s.receiver.badRun < Config.badRunLimit ∧
  (s.session.link ≠ .active →
    s.window.records = [] ∧ s.window.retry = 0 ∧ s.window.timer = none ∧ s.delivered = [] ∧
    s.replies = [] ∧ s.arbiter.ackDue = none ∧ s.arbiter.nakDue = none ∧ s.arbiter.resend = none ∧
    s.arbiter.finalHelloDue = false ∧ s.receiver.badRun = 0 ∧ s.receiver.nakSent = false)

/-- R158, R161, R164: the waiting order holds each WAITING slot once and no other slot; a slot is IN_FLIGHT
exactly while one NOTE frame of it, with its contents, is in the Window. -/
abbrev State.SlotLaw (s : State) : Prop :=
  s.notes.order.Nodup ∧ s.flyingSlots.Nodup ∧
  (∀ k : SlotId, k ∈ s.notes.order ↔ (s.notes.slots[k.val]).isWaiting = true) ∧
  (∀ k : SlotId, k ∈ s.flyingSlots ↔ (s.notes.slots[k.val]).isInFlight = true) ∧
  (∀ r ∈ s.window.records, ∀ p ∈ r.body.slotNote, s.notes.slots[p.1.val] = .inFlight p.2) ∧
  (∀ k : SlotId, ∀ n ∈ (s.notes.slots[k.val]).note, 1 ≤ n.data.length ∧ n.data.length ≤ 8)

/-- R39, R68, R146: a source is QUEUED exactly when one message of it is in the Event Queue, SENT exactly
when one EVENT frame of it is in the Window, DELIVERED exactly when it stands on the Delivered List once,
and in HOLDOFF exactly while its holdoff timer runs (R58). -/
abbrev State.PlaceLaw (s : State) : Prop :=
  s.queuedSources.Nodup ∧ s.sentSources.Nodup ∧ s.delivered.Nodup ∧
  ∀ n : SourceId,
    (n ∈ s.queuedSources ↔ (s.src n).state = .queued) ∧ (n ∈ s.sentSources ↔ (s.src n).state = .sent) ∧
    (n ∈ s.delivered ↔ (s.src n).state = .delivered) ∧
    ((s.src n).holdoff.isSome ↔ (s.src n).state = .holdoff)

/-- R25, R26, R39, R49: a disabled source is IDLE; a masked source is not QUEUED; an enabled source has a
VECTOR of 1 to 250; a soft source has SENSE LEVEL_HIGH or RISING; DELIVERED is of class LEVEL; HOLDOFF has a
HOLD; PENDING is non-zero only unmasked, of class EDGE, in SENT or HOLDOFF; PEND_OVR only with PENDING 255. -/
abbrev State.EntryLaw (s : State) : Prop :=
  ∀ n : SourceId,
    ((s.src n).enable = false → (s.src n).state = .idle) ∧
    ((s.src n).mask = true → (s.src n).state ≠ .queued) ∧
    ((s.src n).enable = true → 1 ≤ (s.src n).vector.toNat ∧ (s.src n).vector.toNat ≤ 250) ∧
    (32 ≤ n.val → (s.src n).sense = .levelHigh ∨ (s.src n).sense = .rising) ∧
    ((s.src n).state = .delivered → (s.src n).sense.isLevel = true) ∧
    ((s.src n).state = .holdoff → (s.src n).hold ≠ 0) ∧
    ((s.src n).pending ≠ 0 → (s.src n).mask = false ∧ (s.src n).sense.isLevel = false ∧
      ((s.src n).state = .sent ∨ (s.src n).state = .holdoff)) ∧
    ((s.src n).pendOvr = true → (s.src n).pending = 255)

/-- R19, R40: a message carries its source's VECTOR, DEST, PRIO and class, and a count of 1 or more that
is 1 for class LEVEL. -/
abbrev State.carries (s : State) (m : Message) : Prop :=
  m.vector = (s.src m.source).vector ∧ m.dest = (s.src m.source).dest ∧ m.prio = (s.src m.source).prio ∧
    m.level = (s.src m.source).sense.isLevel ∧ m.count ≠ 0 ∧
    (m.level = true → m.count = 1 ∧ m.overrun = false)

/-- R19, R40, R46, R68: every queued message stands in its class and carries its source's fields, a
queued LEVEL source is asserted, and every EVENT frame of the Window carries its source's fields. -/
abbrev State.MessageLaw (s : State) : Prop :=
  (∀ c : Fin 4, ∀ m ∈ s.queue[c.val], m.prio = c) ∧ (∀ m ∈ s.queue.messages, s.carries m) ∧
  (∀ m ∈ s.queue.messages, m.level = true → s.qualified m.source = true) ∧
  (∀ m ∈ s.flyingMessages, s.carries m)

/-- R188, R190: while a device reset is in effect every block holds its reset value: all but the queue of
commands, the model's clock and counter, the local bus and the levels of the EV pins; outside a reset no
access waits. -/
abbrev State.ResetLaw (s : State) : Prop :=
  (s.resetting = none → s.bus.waiting = []) ∧
  ∀ cause ∈ s.resetting,
    { s with
      lines := s.lines.map fun l => { l with pin := false, observed := false, accepted := false } } =
      { State.reset with
        pending := s.pending, now := s.now, freeCount := s.freeCount, bus := s.bus,
        resetting := some cause, regs := Registers.reset cause }

/-- Key figures, R94: no frame kept in the Window has more than 27 payload bytes. -/
abbrev State.FrameLaw (s : State) : Prop :=
  ∀ r ∈ s.window.records, r.body.payload.length ≤ Config.maxPayload

/-- Every law together: what holds of the device after reset and after every step. -/
structure State.Inv (s : State) : Prop where
  cfg : s.CfgLaw
  bounds : s.BoundsLaw
  line : s.LineLaw
  session : s.SessionLaw
  tx : s.TxLaw
  assembly : s.AssemblyLaw
  window : s.WindowLaw
  slot : s.SlotLaw
  place : s.PlaceLaw
  entry : s.EntryLaw
  message : s.MessageLaw
  frame : s.FrameLaw
  reset : s.ResetLaw

/-! ### What a rule says of the state after

Each definition below writes one rule's effect from the fields alone, without the operations of Machine/,
so that a statement can set the two side by side. -/

/-- An outcome of a command. -/
abbrev Result := Host.Outcome State Fault Refusal

/-- The local bus after a completed access: RDY active (R178). -/
def State.ready (s : State) : State := { s with bus := { s.bus with ready := true } }

/-- R181: a refused local request overwrites REFUSE_INFO, sets REFUSED (bit 6 of CAUSE), and changes
nothing else; the write completes. -/
def State.afterRefusal (s : State) (request : Byte) (operand : BitVec 16) (reason : RefuseReason) : State :=
  { s with
    regs := { s.regs with
      refuse := { request := request, operand := operand, reason := reason },
      cause := s.regs.cause ||| 0x40#8 },
    bus := { s.bus with ready := true } }

/-- Bits of CAUSE set (R184). -/
def State.withCause (s : State) (bits : BitVec 8) : State :=
  { s with regs := { s.regs with cause := s.regs.cause ||| bits } }

/-- EVENTS_WITHDRAWN raised by `k` (R186). -/
def State.withWithdrawn (s : State) (k : Nat) : State :=
  { s with regs := { s.regs with stats := { s.regs.stats with
      eventsWithdrawn := saturate32 s.regs.stats.eventsWithdrawn k } } }

/-- R70: a message at the tail of its class, its source QUEUED. -/
def State.placed (s : State) (m : Message) : State :=
  { s with
    queue := s.queue.set m.prio.val (s.queue[m.prio.val] ++ [m]),
    sources := s.sources.set m.source.val { s.src m.source with state := .queued } m.source.isLt }

/-- R72: the message of a source taken out of the queue, the source IDLE, EVENTS_WITHDRAWN one higher. -/
def State.unplaced (s : State) (n : SourceId) : State :=
  { s.withWithdrawn 1 with
    queue := s.queue.map fun c => c.filter fun m => m.source ≠ n,
    sources := s.sources.set n.val { s.src n with state := .idle } n.isLt }

/-- The message of a LEVEL source: count 1, OVERRUN 0 (R23, R41). -/
def State.levelMessage (s : State) (n : SourceId) (resent : Bool) : Message :=
  { source := n, vector := (s.src n).vector, dest := (s.src n).dest, prio := (s.src n).prio, count := 1,
    overrun := false, level := true, resent := resent }

/-- The message of an EDGE source (R41). -/
def State.edgeMessage (s : State) (n : SourceId) (count : Byte) (overrun resent : Bool) : Message :=
  { source := n, vector := (s.src n).vector, dest := (s.src n).dest, prio := (s.src n).prio,
    count := count, overrun := overrun, level := false, resent := resent }

/-- The four conditions of R23: enabled, unmasked, of class LEVEL, asserted. -/
abbrev State.asserts (s : State) (n : SourceId) : Prop :=
  (s.src n).enable = true ∧ (s.src n).mask = false ∧ (s.src n).sense.isLevel = true ∧
    s.qualified n = true

/-- R23: an idle source checked against its level. -/
def State.checked (s : State) (n : SourceId) (resent : Bool) : State :=
  if s.asserts n then s.placed (s.levelMessage n resent) else s

/-- R42, R43, R45, R49, R50: what one edge event at source n makes of state u. -/
def EdgeOutcome (u : State) (n : SourceId) (o : Result) : Prop :=
  ((u.src n).enable = false ∨ (u.src n).mask = true → o = .next u) ∧
  ((u.src n).enable = true → (u.src n).mask = false →
    ((u.src n).state = .idle → o = .next (u.placed (u.edgeMessage n 1 false false))) ∧
    ((u.src n).state = .queued → ∀ m, u.queue.messages.find? (fun x => x.source = n) = some m →
      o = if m.count = 255 then
          .next (State.withCause { u with
            queue := u.queue.map fun c => c.map fun x =>
              if x.source = n then { x with overrun := true } else x } 0x80#8)
        else
          .next { u with
            queue := u.queue.map fun c => c.map fun x =>
              if x.source = n then { x with count := x.count + 1 } else x }) ∧
    ((u.src n).state = .sent ∨ (u.src n).state = .holdoff →
      o = if (u.src n).pending = 255 then
          .next (State.withCause { u with
            sources := u.sources.set n.val { u.src n with pendOvr := true } n.isLt } 0x80#8)
        else
          .next { u with
            sources := u.sources.set n.val { u.src n with pending := (u.src n).pending + 1 } n.isLt }))

/-- R42, R44, R46, R51: what one level change at source n makes of state u. -/
def LevelOutcome (u : State) (n : SourceId) (asserted : Bool) (o : Result) : Prop :=
  ((u.src n).enable = false → o = .next u) ∧
  ((u.src n).enable = true →
    ((u.src n).state = .idle → o = if asserted = true ∧ (u.src n).mask = false then
        .next (u.placed (u.levelMessage n false)) else .next u) ∧
    ((u.src n).state = .queued → o = if asserted = true then .next u else .next (u.unplaced n)) ∧
    ((u.src n).state = .sent ∨ (u.src n).state = .delivered ∨ (u.src n).state = .holdoff → o = .next u))

/-- R5: what an acceptance of source n, rising or falling, makes of state u, which holds the new
accepted line value already (R6). -/
def AcceptanceOutcome (u : State) (n : SourceId) (rising : Bool) (o : Result) : Prop :=
  match (u.src n).sense with
  | .levelHigh => LevelOutcome u n rising o
  | .levelLow => LevelOutcome u n (!rising) o
  | .rising => if rising = true then EdgeOutcome u n o else o = .next u
  | .falling => if rising = true then o = .next u else EdgeOutcome u n o
  | .anyEdge => EdgeOutcome u n o

/-- R30: what mask set requests for the named sources make of s. -/
structure MaskSetOutcome (s t : State) (named : SourceId → Bool) : Prop where
  sources : ∀ n, t.src n = if named n then
      { s.src n with
        mask := true, pending := 0, pendOvr := false,
        state := if (s.src n).state = .queued then .idle else (s.src n).state }
    else s.src n
  queue : t.queue = s.queue.map fun c => c.filter fun m =>
    !(named m.source && decide ((s.src m.source).state = .queued))
  rest : t = { s.withWithdrawn
      (allSources.countP fun n => named n && decide ((s.src n).state = .queued)) with
    sources := t.sources, queue := t.queue, bus := { s.bus with ready := true } }

/-- R31, R29, R70: what mask clear requests for the named sources make of s; the order of the messages that
one write appends to a class is free (assumption log 8). -/
structure MaskClearOutcome (s t : State) (named : SourceId → Bool) : Prop where
  sources : ∀ n, t.src n = if named n then
      { s.src n with
        mask := false,
        state := if (s.src n).state = .idle ∧ (s.src n).enable = true ∧
          (s.src n).sense.isLevel = true ∧ s.qualified n = true then .queued else (s.src n).state }
    else s.src n
  queue : ∀ c : Fin 4, ∃ new : List Message, t.queue[c.val] = s.queue[c.val] ++ new ∧
    new.Perm ((allSources.filter fun n => named n && decide ((s.src n).state = .idle) &&
      (s.src n).enable && (s.src n).sense.isLevel && s.qualified n &&
      decide ((s.src n).prio = c)).map fun n => s.levelMessage n false)
  rest : t = { s with
    sources := t.sources, queue := t.queue, freeCount := t.freeCount, bus := { s.bus with ready := true } }

/-- R52, R53: the entry of a source after the acknowledgment of its frame. -/
def State.ackedEntry (s : State) (n : SourceId) : Source :=
  if (s.src n).sense.isLevel = true then { s.src n with state := .delivered }
  else if (s.src n).hold ≠ 0 then { s.src n with state := .holdoff, holdoff := some s.now }
  else
    { s.src n with
      pending := 0, pendOvr := false,
      state := if (s.src n).pending ≠ 0 ∧ (s.src n).mask = false then .queued else .idle }

/-- R52, R53, R128, R162, R175: t is s with the k oldest records of the Window removed as acknowledged,
each reported to its owner, oldest first; what else the acknowledging frame changes is left to the fields
named in `rest`. -/
structure AckedOutcome (s t : State) (k : Nat) : Prop where
  records : t.window.records = s.window.records.drop k
  sources : ∀ n, t.src n =
    if n ∈ (s.window.records.take k).filterMap fun r => r.body.eventSource then s.ackedEntry n else s.src n
  delivered : t.delivered = s.delivered ++ ((s.window.records.take k).filterMap fun r =>
    r.body.eventSource).filter fun n => (s.src n).sense.isLevel
  queue : ∀ c : Fin 4, t.queue[c.val] = s.queue[c.val] ++
    ((((s.window.records.take k).filterMap fun r => r.body.eventSource).filter fun n =>
      !(s.src n).sense.isLevel && decide ((s.src n).hold = 0) && decide ((s.src n).pending ≠ 0) &&
        !(s.src n).mask && decide ((s.src n).prio = c)).map fun n =>
      s.edgeMessage n (s.src n).pending (s.src n).pendOvr false)
  slots : ∀ j : SlotId, t.notes.slots[j.val] =
    if j ∈ (s.window.records.take k).filterMap fun r => r.body.noteSlot then .free
    else s.notes.slots[j.val]
  cause : t.regs = if ((s.window.records.take k).filterMap fun r => r.body.noteSlot) = [] then s.regs
    else { s.regs with cause := s.regs.cause ||| 0x08#8 }
  rest : t = { s with
    window := t.window, sources := t.sources, delivered := t.delivered, queue := t.queue,
    notes := { s.notes with slots := t.notes.slots }, regs := t.regs, arbiter := t.arbiter,
    receiver := t.receiver }

/-- R62, R63: whether session end drops a SENT source. -/
def State.drops (s : State) (n : SourceId) : Bool :=
  (s.src n).mask || ((s.src n).sense.isLevel && !s.qualified n)

/-- R62, R63: the message that session end makes of the frame of a SENT source. -/
def State.requeued (s : State) (m : Message) : Message :=
  if (s.src m.source).sense.isLevel = true then s.levelMessage m.source true
  else if m.count.toNat + (s.src m.source).pending.toNat > 255 then
    s.edgeMessage m.source 255 true true
  else s.edgeMessage m.source (m.count + (s.src m.source).pending)
    (m.overrun || (s.src m.source).pendOvr) true

/-- R61 to R65, R117, R135, R155, R164, R177: what session end makes of s, but for the link state, the
fault, the restart delay and the item in transmission. -/
structure SessionEndOutcome (s t : State) : Prop where
  window : t.window = { s.window with records := [], retry := 0, timer := none }
  delivered : t.delivered = []
  replies : t.replies = []
  arbiter : t.arbiter = { s.arbiter with
    ackDue := none, nakDue := none, resend := none, finalHelloDue := false }
  receiver : t.receiver = { s.receiver with assembly := none, badRun := 0, nakSent := false }
  sources : ∀ n, t.src n = match (s.src n).state with
    | .sent => { s.src n with
        pending := 0, pendOvr := false, state := if s.drops n then .idle else .queued }
    | .delivered => { s.src n with state := if s.asserts n then .queued else .idle }
    | .idle | .queued | .holdoff => s.src n
  queue : ∀ c : Fin 4, t.queue[c.val] =
    (s.flyingMessages.filter fun m =>
      !s.drops m.source && decide ((s.src m.source).prio = c)).map s.requeued ++
    s.queue[c.val] ++
    (s.delivered.filter fun n => decide (s.asserts n) && decide ((s.src n).prio = c)).map fun n =>
      s.levelMessage n true
  notes : t.notes = { s.notes with
    slots := s.notes.slots.map fun
      | .inFlight n => .waiting n
      | .waiting n => .waiting n
      | .free => .free,
    order := s.flyingSlots ++ s.notes.order }
  regs : t.regs = { s.regs with
    cause := s.regs.cause ||| 0x02#8 |||
      (if s.flyingMessages.any fun m => !(s.src m.source).sense.isLevel && !(s.src m.source).mask &&
        decide (m.count.toNat + (s.src m.source).pending.toNat > 255) then 0x80#8 else 0),
    stats := { s.regs.stats with
      eventsWithdrawn := saturate32 s.regs.stats.eventsWithdrawn
        (s.sentSources.countP fun n => s.drops n) } }
  rest : t = { s with
    window := t.window, delivered := t.delivered, replies := t.replies, arbiter := t.arbiter,
    receiver := t.receiver, sources := t.sources, queue := t.queue, notes := t.notes, regs := t.regs,
    session := t.session, tx := t.tx, bus := t.bus }

/-- R116, R119, R120: the Session Controller after an entry to FAILED with a cause. -/
def State.failedSession (s : State) (cause : FaultCause) : Session :=
  { s.session with
    link := .failed, agreed := 0, greetTimeout := none,
    restartDelay := if s.regs.linkCfg.auto then some s.now else none,
    faultCause := if s.session.faultCause = .none then cause else s.session.faultCause,
    faultCount := if s.session.faultCause = .none ∨ s.session.faultCount = 255 then s.session.faultCount
      else s.session.faultCount + 1 }

/-- R116, R117: a session that ends with a fault. -/
def SessionFailed (s t : State) (cause : FaultCause) : Prop :=
  SessionEndOutcome s t ∧ t.session = s.failedSession cause ∧ t.tx = some .brk ∧ t.bus = s.bus

/-- R140: the Link Receiver after the acceptance of an expected frame with number n. -/
def receiverAfter (n : SeqNum) : Receiver :=
  { assembly := none, badRun := 0, expected := n + 1, nakSent := false }

/-- R140: the Arbiter after the acceptance of an expected frame with number n. -/
def State.receivedArbiter (s : State) (n : SeqNum) : Arbiter :=
  { s.arbiter with
    ackDue := some n, nakDue := if s.arbiter.nakDue = some n then none else s.arbiter.nakDue }

/-- R104, R105: s with a good frame taken off the line in ACTIVE. -/
def State.goodTaken (s : State) : State :=
  { s with receiver := { s.receiver with assembly := none, badRun := 0 } }

/-- R126: s with the item in transmission ended: a sequenced frame's end starts a stopped timer over a
Window that is not empty. -/
def State.itemEnded (s : State) : State :=
  match s.tx, s.window.timer, s.window.records with
  | some (.sequenced _), none, _ :: _ => { s with window := { s.window with timer := some s.now } }
  | _, _, _ => s

/-- R81, R125: the grant of a body, but for the candidate's own collection. -/
def State.granted (s : State) (b : Body) : State :=
  { s with
    window := { s.window with
      records := s.window.records ++ [{ seq := s.window.next, body := b }], next := s.window.next + 1 },
    tx := some (.sequenced { seq := s.window.next, body := b }) }

/-- Commands taken one after the other; the first that stops ends the run. -/
def execAll : List Instr → State → Result
  | [], s => .next s
  | c :: cs, s =>
    match exec c s with
    | .next t => execAll cs t
    | .fault r => .fault r
    | .refused r => .refused r

/-- The command that the arrival of a good frame is (R104). -/
def RxFrame.command : RxFrame → Instr
  | .hello heard revision window epoch role => .hello heard revision window epoch role
  | .ack n => .ack n
  | .nak n => .nak n
  | .complete n oldest vector => .complete n oldest vector
  | .note n tag data => .note n tag data
  | .control n tag op first count => .control n tag op first count

end Sys2Proof.Machine
end

