-- ==== Sys2Proof/WellFormed.lean ====
section
/-! DEFINITION. Which commands are well formed: the operands that R96, R178 and R180 allow each row to
carry. `exec` has a meaning for the others too (assumption log 9 and 10). -/

namespace Sys2Proof

/-- A good NOTE carries 1 to 8 data bytes: its LEN is 2 to 9 (R96, R103). -/
def noteLengthOk (data : List Byte) : Bool := 1 ≤ data.length && data.length ≤ 8

/-- The CMD codes that name a command (R180). -/
def knownCode (code : Byte) : Bool := 1 ≤ code.toNat && code.toNat ≤ 0x0A

/-- The registers whose write is a row of its own in the table; REGISTER_WRITE is for the others. -/
def Register.hasOwnWriteRow : Register → Bool
  | .srcIndex | .srcConfig | .maskSetLo | .maskSetHi | .maskClrLo | .maskClrHi
  | .softRaise | .softLower | .cmd | .linkCfg | .cause | .causeEn => true
  | _ => false

/-- The checks on a command's operands. -/
def Instr.wellFormed : Instr → Bool
  | .note _ _ data => noteLengthOk data
  | .unknownCommand code _ => !knownCode code
  | .registerWrite addr _ => !(Register.ofAddr addr).hasOwnWriteRow
  | .observedLineChange .. | .stabilityIntervalExpiry .. | .srcIndexWrite .. | .srcConfigWrite ..
  | .maskSetLo .. | .maskSetHi .. | .maskClrLo .. | .maskClrHi .. | .softRaise .. | .softLower ..
  | .forceIdle .. | .tableClear .. | .noteSend .. | .notePop .. | .noteFlush .. | .linkEnable ..
  | .linkDisable .. | .linkRestart .. | .statsClear .. | .deviceReset .. | .linkCfgWrite ..
  | .linkStatusRead | .linkFaultRead | .causeWrite .. | .causeEnWrite .. | .rstN | .powerUp
  | .resetEnd | .character .. | .characterGap | .lineBreak | .hello .. | .ack .. | .nak ..
  | .complete .. | .control .. | .frameBoundary | .holdoffExpiry .. | .acknowledgmentTimerExpiry
  | .greetingIntervalExpiry | .greetTimeout | .restartDelayExpiry => true

end Sys2Proof
end

