-- ==== Sys2Proof/Certificates/Slice0/Obligations.lean ====
section
/-! DEFINITION. The statements about the VP320 for the provers. OBLIGATIONS.json lists them with the rules
they come from. `s.resetting = none` is the premise that no device reset is in effect. -/

section Statements

open Sys2Proof Sys2Proof.Machine

/-! ### The queue of commands -/

/-- A step takes the command at the front of the queue and runs it on the state with the queue's rest; on
an empty queue it counts one REFCLK period and changes nothing else, which is the MODEL's choice
(assumption log 4). -/
def Obligations.StepRunsTheFrontCommand : Prop :=
  ∀ s : State,
    (∀ (c : Instr) (rest : List Instr), s.pending = c :: rest →
      step s = exec c { s with pending := rest }) ∧
    (s.pending = [] → step s = .next { s with now := s.now + 1 })

/-- Every command has a next state in every state, and leaves the queue and the model's clock alone (the
clock is the MODEL's: assumption log 4). -/
def Obligations.EveryCommandHasANextState : Prop :=
  ∀ (c : Instr) (s : State), ∃ t, exec c s = .next t ∧ t.pending = s.pending ∧ t.now = s.now

/-! ### Device reset (section 11.7) -/

/-- Every register of the map reads its reset value after a reset by RST_N or power-up, every undefined
offset reads 0, IRQ_OUT_N is high and the line is idle. The MODEL's choices here are the pins low
(assumption log 5) and RESET_CAUSE PIN (assumption log 6). -/
def Obligations.RegistersReadTheirResetValues : Prop :=
  let rd : Byte → Word := fun a => State.reset.readRegister (Register.ofAddr a)
  rd 0x00 = 0x7E200001 ∧ rd 0x0C = 0x00000008 ∧ rd 0x10 = 0xFFFFFFFF ∧ rd 0x14 = 0x000000FF ∧
  rd 0x34 = 0x00043280 ∧ rd 0x44 = 0x00040000 ∧ rd 0x70 = 1 ∧
  (∀ a ∈ ([0x04, 0x08, 0x18, 0x1C, 0x20, 0x24, 0x28, 0x2C, 0x30, 0x38, 0x3C, 0x40, 0x48, 0x4C, 0x50, 0x54,
    0x58, 0x5C, 0x60, 0x64, 0x68, 0x6C, 0x80, 0x84, 0x88, 0x8C, 0x90, 0x94, 0x98, 0x9C] : List Byte),
    rd a = 0) ∧
  (∀ a : Byte, (0x74 ≤ a.toNat ∧ a.toNat < 0x80) ∨ 0xA0 ≤ a.toNat → rd a = 0) ∧
  State.reset.irqOutN = true ∧ State.reset.tx = none

/-- RST_N and POWER_UP in every state, and DEVICE_RESET outside a reset, put every block at its reset
value; the cause that the reset will record is PIN or COMMAND. That the pins and the local bus stand is the
MODEL's reading (assumption log 7 and 12). -/
def Obligations.ResetPutsEveryBlockAtItsResetValue : Prop :=
  ∀ (s : State) (op : Byte),
    let held : ResetCause → State := fun cause =>
      { State.reset with
        pending := s.pending, now := s.now, freeCount := s.freeCount, bus := s.bus,
        resetting := some cause, regs := Registers.reset cause,
        lines := s.lines.map fun l =>
          { pin := l.pin, observed := l.pin, accepted := l.pin, interval := none } }
    exec .rstN s = .next (held .pin) ∧ exec .powerUp s = .next (held .pin) ∧
    (s.resetting = none → exec (.deviceReset op) s = .next (held .command).ready)

/-- At the end of a reset the lines take the level of the pins without a report, RESET_CAUSE holds the
cause, and everything else stands at its reset value. An access that waited is then taken against those
values, as its command would be there; a read that is no command leaves its data and completes (assumption
log 7). Outside a reset there is no end to take. -/
def Obligations.ResetEndStartsTheDevice : Prop :=
  ∀ s : State, (s.resetting = none → exec .resetEnd s = .next s) ∧
    ∀ cause, s.resetting = some cause → s.ResetLaw →
      let u : State :=
        { State.reset with
          pending := s.pending, now := s.now, freeCount := s.freeCount,
          bus := { s.bus with waiting := [] }, regs := Registers.reset cause,
          lines := s.lines.map fun l =>
            { pin := l.pin, observed := l.pin, accepted := l.pin, interval := none } }
      (s.bus.waiting = [] → exec .resetEnd s = .next u) ∧
      (∀ a c, s.bus.waiting = [a] → a.command = some c → exec .resetEnd s = exec c u) ∧
      (∀ addr, s.bus.waiting = [.read addr] → Access.command (.read addr) = none →
        exec .resetEnd s = .next { u with bus := { u.bus with
          readData := u.readRegister (Register.ofAddr addr), ready := true } })

/-- While a reset is in effect a command that is an access of the local bus waits with RDY inactive, a line
change reaches the pin alone, and every other command but the resets and the end of reset has no effect
(the MODEL's reading: assumption log 7 and 12). -/
def Obligations.ResetHoldsTheCommands : Prop :=
  ∀ (s : State), s.resetting ≠ none →
    (∀ (c : Instr) (a : Access), c.access = some a → exec c s =
      .next { s with bus := { s.bus with waiting := s.bus.waiting ++ [a], ready := false } }) ∧
    (∀ c : Instr, c.access = none → c ≠ .rstN → c ≠ .powerUp → c ≠ .resetEnd →
      (∀ l v, c ≠ .observedLineChange l v) → exec c s = .next s) ∧
    ∀ (l : LineId) (v : Bool), exec (.observedLineChange l v) s =
      .next { s with lines := s.lines.set l.val { s.line l with pin := v } l.isLt }

/-! ### Event lines (sections 1.1 to 1.4) -/

/-- With FILTER NONE every observed change is an acceptance, and with a filter the expiry of the stability
interval is: the accepted line value takes the observed value, and the source's SENSE decides the report,
which the Source Table takes in the same event, by its state. With a filter, a change away from the
accepted value starts the interval from this moment, a change back stops it, and neither is an acceptance;
a stopped interval does not expire (its command then has no effect: the MODEL's choice, assumption log 3). -/
def Obligations.LinesAreFilteredAndReportBySense : Prop :=
  ∀ (s : State) (l : LineId), s.resetting = none →
    let set : Line → State := fun x => { s with lines := s.lines.set l.val x l.isLt }
    (∀ level, (s.line l).observed ≠ level →
      ((s.src (lineSource l)).filter = .none → (s.line l).accepted ≠ level →
        AcceptanceOutcome (set { pin := level, observed := level, accepted := level, interval := none })
          (lineSource l) level (exec (.observedLineChange l level) s)) ∧
      ((s.src (lineSource l)).filter ≠ .none →
        exec (.observedLineChange l level) s = .next (set
          { pin := level, observed := level, accepted := (s.line l).accepted,
            interval := if level = (s.line l).accepted then none else some s.now }))) ∧
    ((s.line l).interval ≠ none → (s.line l).observed ≠ (s.line l).accepted →
      AcceptanceOutcome (set
          { s.line l with accepted := (s.line l).observed, interval := none })
        (lineSource l) (s.line l).observed (exec (.stabilityIntervalExpiry l) s)) ∧
    ((s.line l).interval = none → exec (.stabilityIntervalExpiry l) s = .next s)

/-! ### Soft levels (section 1.6) -/

/-- SOFT_RAISE and SOFT_LOWER of 0 to 31 are refused with NOT_SOFT and of 40 or more with BAD_SOURCE;
REFUSE_INFO holds the value written, or 65535 if it is greater. A value of 32 to 39 is that soft source's
request, whose effect `SoftRequestsActBySense` states. Neither register can be read back. -/
def Obligations.SoftRequestOutsideTheSoftSourcesIsRefused : Prop :=
  ∀ (s : State) (v : Word), s.resetting = none →
    (v.toNat < 32 →
      exec (.softRaise v) s = .next (s.afterRefusal 0x12#8 (v.setWidth 16) .notSoft) ∧
      exec (.softLower v) s = .next (s.afterRefusal 0x13#8 (v.setWidth 16) .notSoft)) ∧
    (40 ≤ v.toNat →
      exec (.softRaise v) s = .next (s.afterRefusal 0x12#8
        (if v.toNat ≤ 65535 then v.setWidth 16 else 65535#16) .badSource) ∧
      exec (.softLower v) s = .next (s.afterRefusal 0x13#8
        (if v.toNat ≤ 65535 then v.setWidth 16 else 65535#16) .badSource)) ∧
    (∀ k : SoftId, v.toNat = 32 + k.val →
      exec (.softRaise v) s = .next (s.raiseSoft k).ready ∧
      exec (.softLower v) s = .next (s.lowerSoft k).ready) ∧
    s.readRegister .softRaise = 0 ∧ s.readRegister .softLower = 0

/-- SOFT_RAISE and SOFT_LOWER of a soft source: under RISING a raise is one edge event and a lower has no
effect; under LEVEL_HIGH the bit follows the request, a change of the bit is a level change, and a request
that leaves the bit as it is gives no report. -/
def Obligations.SoftRequestsActBySense : Prop :=
  ∀ (s : State) (k : SoftId) (v : Word), s.resetting = none → v.toNat = 32 + k.val →
    let n := softSource k
    ((s.src n).sense = .rising →
      EdgeOutcome s.ready n (exec (.softRaise v) s) ∧ exec (.softLower v) s = .next s.ready) ∧
    ((s.src n).sense = .levelHigh → s.softLevel k = false →
      LevelOutcome { s.ready with softLevels := s.softLevels.set k.val true k.isLt } n true
        (exec (.softRaise v) s) ∧
      exec (.softLower v) s = .next s.ready) ∧
    ((s.src n).sense = .levelHigh → s.softLevel k = true →
      exec (.softRaise v) s = .next s.ready ∧
      LevelOutcome { s.ready with softLevels := s.softLevels.set k.val false k.isLt } n false
        (exec (.softLower v) s))

/-! ### Source Table (spec/02) -/

/-- SRC_INDEX takes a value of 0 to 39, checked on all 32 bits, and refuses any other with BAD_SOURCE. -/
def Obligations.SrcIndexTakesSourceNumbersAlone : Prop :=
  ∀ (s : State) (v : Word), s.resetting = none →
    (∀ n : SourceId, v.toNat = n.val →
      exec (.srcIndexWrite v) s = .next { s.ready with regs := { s.regs with srcIndex := n } }) ∧
    (40 ≤ v.toNat → exec (.srcIndexWrite v) s = .next (s.afterRefusal 0x10#8
      (if v.toNat ≤ 65535 then v.setWidth 16 else 65535#16) .badSource))

/-- SRC_CONFIG is refused with CFG_BUSY when the source is not IDLE, or is enabled and the write changes a
field other than ENABLE; and only then with BAD_VALUE, for a code that is no sense, a soft source's sense
other than LEVEL_HIGH and RISING, or an enabling VECTOR outside 1 to 250. -/
def Obligations.SrcConfigIsRefusedBusyThenBadValue : Prop :=
  ∀ (s : State) (v : Word), s.resetting = none →
    let n := s.regs.srcIndex
    let e := s.src n
    let busy : Prop := e.state ≠ .idle ∨
      (e.enable = true ∧ (v &&& 0xFFFFF37E#32) ≠ (e.configWord &&& 0xFFFFF37E#32))
    let bad : Prop := 5 ≤ (v.extractLsb' 1 3).toNat ∨
      (32 ≤ n.val ∧ v.extractLsb' 1 3 ≠ 0#3 ∧ v.extractLsb' 1 3 ≠ 2#3) ∨
      (v.getLsbD 0 = true ∧
        ((v.extractLsb' 16 8).toNat = 0 ∨ 250 < (v.extractLsb' 16 8).toNat))
    (busy → exec (.srcConfigWrite v) s =
      .next (s.afterRefusal 0x11#8 (BitVec.ofNat 16 n.val) .cfgBusy)) ∧
    (¬busy → bad → exec (.srcConfigWrite v) s =
      .next (s.afterRefusal 0x11#8 (BitVec.ofNat 16 n.val) .badValue))

/-- A SRC_CONFIG write that is not refused replaces the configuration fields other than MASK; a change of
SENSE or FILTER makes a line take its observed value without a report; enabling re-evaluates; and
SRC_CONFIG then reads as written but for the unused bits. -/
def Obligations.SrcConfigReplacesFieldsAndReevaluates : Prop :=
  ∀ (s : State) (v : Word) (sense : Sense), s.resetting = none →
    let n := s.regs.srcIndex
    let e := s.src n
    e.state = .idle →
    (e.enable = true → (v &&& 0xFFFFF37E#32) = (e.configWord &&& 0xFFFFF37E#32)) →
    sense.code = v.extractLsb' 1 3 →
    (32 ≤ n.val → sense = .levelHigh ∨ sense = .rising) →
    (v.getLsbD 0 = true → 1 ≤ (v.extractLsb' 16 8).toNat ∧ (v.extractLsb' 16 8).toNat ≤ 250) →
    let stored : State := { s.ready with
      sources := s.sources.set n.val
        { e with
          enable := v.getLsbD 0, sense := sense, filter := FilterSetting.ofCode (v.extractLsb' 4 2),
          vector := v.extractLsb' 16 8, dest := v.extractLsb' 12 4, prio := (v.extractLsb' 8 2).toFin,
          hold := v.extractLsb' 24 8, remote := v.getLsbD 6 } n.isLt }
    let sampled : State :=
      if h : n.val < 32 then
        if sense ≠ e.sense ∨ FilterSetting.ofCode (v.extractLsb' 4 2) ≠ e.filter then
          { stored with
            lines := s.lines.set n.val
              { s.line ⟨n.val, h⟩ with
                accepted := (s.line ⟨n.val, h⟩).observed, interval := none } h }
        else stored
      else stored
    let t := if e.enable = false ∧ v.getLsbD 0 = true then sampled.checked n false else sampled
    exec (.srcConfigWrite v) s = .next t ∧ t.readRegister .srcConfig = v &&& 0xFFFFF37F#32

/-- Mask set requests: MASK 1, PENDING and PEND_OVR 0, and a QUEUED source's message withdrawn and counted;
sources that the write does not name keep their entries. -/
def Obligations.MaskSetWithdrawsQueuedSources : Prop :=
  ∀ (s : State) (v : Word), s.resetting = none →
    (∃ t, exec (.maskSetLo v) s = .next t ∧
      MaskSetOutcome s t fun n => decide (n.val < 32) && v.getLsbD n.val) ∧
    (∃ t, exec (.maskSetHi v) s = .next t ∧
      MaskSetOutcome s t fun n => decide (32 ≤ n.val) && v.getLsbD (n.val - 32))

/-- Mask clear requests: MASK 0, and an IDLE source re-evaluated; several messages of one class are
appended in an order that nothing fixes. -/
def Obligations.MaskClearReevaluatesIdleSources : Prop :=
  ∀ (s : State) (v : Word), s.resetting = none →
    (∃ t, exec (.maskClrLo v) s = .next t ∧
      MaskClearOutcome s t fun n => decide (n.val < 32) && v.getLsbD n.val) ∧
    (∃ t, exec (.maskClrHi v) s = .next t ∧
      MaskClearOutcome s t fun n => decide (32 ≤ n.val) && v.getLsbD (n.val - 32))

/-- FORCE_IDLE by operand and STATE: BAD_SOURCE from 40, CFG_BUSY in IDLE, QUEUED and SENT; DELIVERED is
taken off the list and re-evaluated; HOLDOFF ends with nothing pending, and a LEVEL source is
re-evaluated. -/
def Obligations.ForceIdleReleasesHeldSources : Prop :=
  ∀ (s : State) (op : Byte), s.resetting = none →
    (40 ≤ op.toNat →
      exec (.forceIdle op) s = .next (s.afterRefusal 0x01#8 (op.setWidth 16) .badSource)) ∧
    ∀ n : SourceId, op.toNat = n.val →
      ((s.src n).state = .idle ∨ (s.src n).state = .queued ∨ (s.src n).state = .sent →
        exec (.forceIdle op) s = .next (s.afterRefusal 0x01#8 (op.setWidth 16) .cfgBusy)) ∧
      ((s.src n).state = .delivered → exec (.forceIdle op) s = .next
        (State.checked { s.ready with
          delivered := s.delivered.filter fun m => m ≠ n,
          sources := s.sources.set n.val { s.src n with state := .idle } n.isLt } n false)) ∧
      ((s.src n).state = .holdoff → exec (.forceIdle op) s = .next
        (State.checked { s.ready with
          sources := s.sources.set n.val
            { s.src n with state := .idle, holdoff := none, pending := 0, pendOvr := false } n.isLt }
          n false))

/-- TABLE_CLEAR is refused in ACTIVE; elsewhere it masks every source, clears what is pending, empties the
Event Queue counting each message, stops every holdoff, and leaves every source IDLE. -/
def Obligations.TableClearQuietsEverySource : Prop :=
  ∀ (s : State) (op : Byte), s.resetting = none →
    (s.session.link = .active →
      exec (.tableClear op) s = .next (s.afterRefusal 0x02#8 0 .linkBusy)) ∧
    (s.session.link ≠ .active → ∃ t, exec (.tableClear op) s = .next t ∧
      t = { s.ready.withWithdrawn s.queue.messages.length with
        queue := Vector.replicate 4 [],
        sources := s.sources.map fun e =>
          { e with
            mask := true, pending := 0, pendOvr := false, holdoff := none,
            state := if e.state = .queued ∨ e.state = .holdoff then .idle else e.state } } ∧
      (s.Inv → ∀ n, (t.src n).state = .idle))

/-! ### Notes (spec/09) -/

/-- NOTE_SEND: NOTE_FULL with no slot FREE, decided first; BAD_VALUE for a length of 0 or of 9 to 15;
otherwise the lowest FREE slot takes the staged note and joins the tail of the waiting order. -/
def Obligations.NoteSendFillsTheLowestFreeSlot : Prop :=
  ∀ (s : State) (op : Byte), s.resetting = none →
    ((∀ k : SlotId, s.notes.slots[k.val] ≠ .free) → exec (.noteSend op) s =
      .next (s.afterRefusal 0x03#8 (s.notes.outLength.setWidth 16) .noteFull)) ∧
    ∀ k : SlotId, s.notes.slots[k.val] = .free → (∀ j : SlotId, j < k → s.notes.slots[j.val] ≠ .free) →
      ((s.notes.outLength = 0 ∨ 9 ≤ s.notes.outLength.toNat) → exec (.noteSend op) s =
        .next (s.afterRefusal 0x03#8 (s.notes.outLength.setWidth 16) .badValue)) ∧
      (1 ≤ s.notes.outLength.toNat → s.notes.outLength.toNat ≤ 8 → exec (.noteSend op) s =
        .next { s.ready with notes := { s.notes with
          slots := s.notes.slots.set k.val (.waiting
            { tag := s.notes.outTag,
              data := [s.notes.outData0.extractLsb' 0 8, s.notes.outData0.extractLsb' 8 8,
                s.notes.outData0.extractLsb' 16 8, s.notes.outData0.extractLsb' 24 8,
                s.notes.outData1.extractLsb' 0 8, s.notes.outData1.extractLsb' 8 8,
                s.notes.outData1.extractLsb' 16 8,
                s.notes.outData1.extractLsb' 24 8].take s.notes.outLength.toNat }) k.isLt,
          order := s.notes.order ++ [k] } })

/-- NOTE_POP removes the head of the inbound FIFO, and is refused with EMPTY when there is none. NOTE_FLUSH
frees every WAITING slot and empties the waiting order, and leaves IN_FLIGHT slots and all else alone. -/
def Obligations.NotePopAndNoteFlushDropNotes : Prop :=
  ∀ (s : State) (op : Byte), s.resetting = none →
    (s.notes.fifo = [] → exec (.notePop op) s = .next (s.afterRefusal 0x04#8 0 .empty)) ∧
    (∀ n rest, s.notes.fifo = n :: rest →
      exec (.notePop op) s = .next { s.ready with notes := { s.notes with fifo := rest } }) ∧
    exec (.noteFlush op) s = .next { s.ready with
      notes := { s.notes with
        slots := s.notes.slots.map fun x => match x with
          | .waiting _ => .free
          | .inFlight n => .inFlight n
          | .free => .free,
        order := [] } }

/-- REGISTER_WRITE: the three staging registers take the value as written; every register that is not
written otherwise, and every undefined offset, ignores the write. -/
def Obligations.RegisterWriteStagesOrIsIgnored : Prop :=
  ∀ (s : State) (addr : Byte) (v : Word), s.resetting = none →
    (addr.extractLsb' 2 6 = 0x11#6 → exec (.registerWrite addr v) s = .next { s.ready with
      notes := { s.notes with outTag := v.extractLsb' 0 8, outLength := v.extractLsb' 8 4 } }) ∧
    (addr.extractLsb' 2 6 = 0x12#6 → exec (.registerWrite addr v) s =
      .next { s.ready with notes := { s.notes with outData0 := v } }) ∧
    (addr.extractLsb' 2 6 = 0x13#6 → exec (.registerWrite addr v) s =
      .next { s.ready with notes := { s.notes with outData1 := v } }) ∧
    (addr.extractLsb' 2 6 ≠ 0x11#6 → addr.extractLsb' 2 6 ≠ 0x12#6 → addr.extractLsb' 2 6 ≠ 0x13#6 →
      (Instr.registerWrite addr v).wellFormed = true → exec (.registerWrite addr v) s = .next s.ready)

/-! ### Link commands (section 6.2) -/

/-- LINK_ENABLE takes DISABLED to SYNCING with SYNC characters at once; elsewhere it has no effect and is no
refusal. -/
def Obligations.LinkEnableLeavesDisabledAlone : Prop :=
  ∀ (s : State) (op : Byte), s.resetting = none → s.TxLaw →
    (s.session.link = .disabled → exec (.linkEnable op) s = .next { s.ready with
      session := { s.session with link := .syncing, syncCount := 0 },
      receiver := { s.receiver with assembly := none }, tx := some .sync }) ∧
    (s.session.link ≠ .disabled → exec (.linkEnable op) s = .next s.ready)

/-- LINK_DISABLE from every link state: no effect in DISABLED, a session end without a fault from ACTIVE,
and the item in transmission cut off. -/
def Obligations.LinkDisableStopsTheLink : Prop :=
  ∀ (s : State) (op : Byte), s.resetting = none →
    (s.session.link = .disabled → exec (.linkDisable op) s = .next s.ready) ∧
    (s.session.link = .syncing → exec (.linkDisable op) s = .next { s.ready with
      session := { s.session with link := .disabled, syncCount := 0 },
      receiver := { s.receiver with assembly := none }, tx := none }) ∧
    (s.session.link = .greeting → exec (.linkDisable op) s = .next { s.ready with
      session := { s.session with link := .disabled, heard := false, agreed := 0, greetTimeout := none },
      arbiter := { s.arbiter with helloDue := false, greetInterval := none },
      receiver := { s.receiver with assembly := none }, tx := none }) ∧
    (s.session.link = .failed → exec (.linkDisable op) s = .next { s.ready with
      session := { s.session with link := .disabled, restartDelay := none },
      receiver := { s.receiver with assembly := none }, tx := none }) ∧
    (s.session.link = .active → s.Inv → ∃ t, exec (.linkDisable op) s = .next t ∧
      SessionEndOutcome s t ∧ t.session = { s.session with link := .disabled, agreed := 0 } ∧
      t.tx = none ∧ t.bus = { s.bus with ready := true })

/-- LINK_RESTART: refused in DISABLED; elsewhere to SYNCING with a break, from ACTIVE as a session end
without a fault. -/
def Obligations.LinkRestartSendsABreak : Prop :=
  ∀ (s : State) (op : Byte), s.resetting = none →
    (s.session.link = .disabled →
      exec (.linkRestart op) s = .next (s.afterRefusal 0x08#8 0 .linkBusy)) ∧
    (s.session.link = .syncing → exec (.linkRestart op) s = .next { s.ready with
      session := { s.session with syncCount := 0 },
      receiver := { s.receiver with assembly := none }, tx := some .brk }) ∧
    (s.session.link = .greeting → exec (.linkRestart op) s = .next { s.ready with
      session := { s.session with
        link := .syncing, syncCount := 0, heard := false, agreed := 0, greetTimeout := none },
      arbiter := { s.arbiter with helloDue := false, greetInterval := none },
      receiver := { s.receiver with assembly := none }, tx := some .brk }) ∧
    (s.session.link = .failed → exec (.linkRestart op) s = .next { s.ready with
      session := { s.session with link := .syncing, syncCount := 0, restartDelay := none },
      receiver := { s.receiver with assembly := none }, tx := some .brk }) ∧
    (s.session.link = .active → s.Inv → ∃ t, exec (.linkRestart op) s = .next t ∧
      SessionEndOutcome s t ∧
      t.session = { s.session with link := .syncing, syncCount := 0, agreed := 0 } ∧
      t.tx = some .brk ∧ t.bus = { s.bus with ready := true })

/-! ### Register Window (spec/11) -/

/-- STATS_CLEAR sets the eight counters to 0 and leaves everything else as it stands. A counter that counts
`k` events rises by `k`, and holds at 4294967295 (R186). -/
def Obligations.StatsClearZeroesTheCountersAlone : Prop :=
  ∀ (s : State) (op : Byte), s.resetting = none → ∃ t, exec (.statsClear op) s = .next t ∧
    (∀ c : Counter, t.counter c = 0) ∧
    t = { s.ready with regs := { s.regs with stats :=
      { eventsSent := 0, framesResent := 0, badFrames := 0, eventsWithdrawn := 0,
        completionsUnmatched := 0, inboundDuplicates := 0, inboundDeferred := 0, sessions := 0 } } } ∧
    ∀ (v : Word) (k : Nat),
      (v.toNat + k < 2 ^ 32 → (saturate32 v k).toNat = v.toNat + k) ∧
      (2 ^ 32 ≤ v.toNat + k → saturate32 v k = 0xFFFFFFFF#32)

/-- A CMD write whose code is 0x00 or from 0x0B to 0xFF is refused with BAD_VALUE, its code recorded; a
code from 0x01 to 0x0A is the command of that code, with bits 15 to 8 as its operand and bits 31 to 16
ignored. -/
def Obligations.UnknownCommandCodesAreRefused : Prop :=
  ∀ (s : State) (code op : Byte), s.resetting = none →
    (code = 0 ∨ 0x0B ≤ code.toNat → exec (.unknownCommand code op) s =
      .next (s.afterRefusal 0x0F#8 (code.setWidth 16) .badValue)) ∧
    ∀ v : Word, v.extractLsb' 0 8 = code → v.extractLsb' 8 8 = op →
      commandOfWrite 0x30#8 v = match code.toNat with
        | 0x01 => .forceIdle op | 0x02 => .tableClear op | 0x03 => .noteSend op | 0x04 => .notePop op
        | 0x05 => .noteFlush op | 0x06 => .linkEnable op | 0x07 => .linkDisable op
        | 0x08 => .linkRestart op | 0x09 => .statsClear op | 0x0A => .deviceReset op
        | _ => .unknownCommand code op

/-- LINK_CFG: LINK_BUSY outside DISABLED, decided first; BAD_VALUE for WINDOW 0 or 9 to 15, TACK 0 or
RETRIES 0; otherwise all five fields replaced together. -/
def Obligations.LinkCfgIsWrittenInDisabledAlone : Prop :=
  ∀ (s : State) (v : Word), s.resetting = none →
    let bad : Prop := v.extractLsb' 4 4 = 0 ∨ 9 ≤ (v.extractLsb' 4 4).toNat ∨
      v.extractLsb' 8 8 = 0 ∨ v.extractLsb' 16 4 = 0
    (s.session.link ≠ .disabled →
      exec (.linkCfgWrite v) s = .next (s.afterRefusal 0x14#8 0 .linkBusy)) ∧
    (s.session.link = .disabled → bad →
      exec (.linkCfgWrite v) s = .next (s.afterRefusal 0x14#8 0 .badValue)) ∧
    (s.session.link = .disabled → ¬bad →
      let t : State := { s.ready with
        regs := { s.regs with
          linkCfg :=
            { auto := v.getLsbD 20, retries := v.extractLsb' 16 4, tack := v.extractLsb' 8 8,
              window := v.extractLsb' 4 4, rate := Rate.ofCode (v.extractLsb' 0 2) } } }
      exec (.linkCfgWrite v) s = .next t ∧ t.readRegister .linkCfg = v &&& 0x001FFFF3#32)

/-- The two reads that change state: LINK_STATUS captures the epochs, LINK_FAULT clears the fault; each
returns its fields as they stood before, and 0 in the bits that are unused. The messages counted are those of the four
classes, the highest first (R69). -/
def Obligations.ReadsThatChangeState : Prop :=
  ∀ s : State, s.resetting = none →
    s.queue.messages = s.queue[3] ++ s.queue[2] ++ s.queue[1] ++ s.queue[0] ∧
    (∃ w : Word, w.extractLsb' 0 3 = s.session.link.code ∧ w.getLsbD 3 = false ∧
      w.extractLsb' 24 8 = 0 ∧
      w.extractLsb' 4 4 = (if s.session.link = .active then s.session.agreed else 0) ∧
      (s.Inv → (w.extractLsb' 8 4).toNat = s.window.records.length ∧
        (w.extractLsb' 12 6).toNat = s.queue.messages.length ∧
        (w.extractLsb' 18 6).toNat = s.delivered.length) ∧
      exec .linkStatusRead s = .next { s with
        regs := { s.regs with epochLocal := s.session.localEpoch, epochPeer := s.session.peerEpoch },
        bus := { s.bus with readData := w, ready := true } }) ∧
    exec .linkFaultRead s = .next { s with
      session := { s.session with faultCause := .none, faultCount := 0 },
      bus := { s.bus with
        readData := (0 : BitVec 16) ++ s.session.faultCount ++ (0 : BitVec 5) ++
          s.session.faultCause.code,
        ready := true } }

/-- CAUSE clears the flags written as 1, CAUSE_EN takes the eight enables, and IRQ_OUT_N is low exactly
while a set flag is enabled. -/
def Obligations.CauseFlagsDriveTheInterrupt : Prop :=
  ∀ (s : State) (v : Word), s.resetting = none →
    (∃ t, exec (.causeWrite v) s = .next t ∧
      (∀ i, i < 8 → t.regs.cause.getLsbD i = (s.regs.cause.getLsbD i && !v.getLsbD i)) ∧
      t = { s.ready with regs := { s.regs with cause := t.regs.cause } }) ∧
    exec (.causeEnWrite v) s =
      .next { s.ready with regs := { s.regs with causeEn := v.extractLsb' 0 8 } } ∧
    (s.irqOutN = false ↔ ∃ i, i < 8 ∧ s.regs.cause.getLsbD i = true ∧ s.regs.causeEn.getLsbD i = true)

/-- What a read of each register returns, by its offset in the map and field by field of its layout, as the
state stands; bits that are unused, write-action registers and undefined offsets read 0; bits 1 and 0 of the
address are ignored; and a read other than of LINK_STATUS and LINK_FAULT changes no state but the read data.
(What LINK_STATUS and LINK_FAULT return is `ReadsThatChangeState`.) The qualified level is the accepted value
of a line, inverted under LEVEL_LOW alone, and the soft level bit of a soft source. -/
def Obligations.ReadsReturnTheStateAsItStands : Prop :=
  ∀ s : State,
    let rd : Byte → Word := fun a => s.readRegister (Register.ofAddr a)
    let n := s.regs.srcIndex
    -- ID (R179), SRC_INDEX (R21)
    rd 0x00 = 0x7E200001#32 ∧ (rd 0x04).toNat = n.val ∧
    -- SRC_CONFIG, SRC_STATUS (R22)
    (rd 0x08).extractLsb' 24 8 = (s.src n).hold ∧ (rd 0x08).extractLsb' 16 8 = (s.src n).vector ∧
    (rd 0x08).extractLsb' 12 4 = (s.src n).dest ∧ (rd 0x08).extractLsb' 10 2 = 0 ∧
    ((rd 0x08).extractLsb' 8 2).toNat = (s.src n).prio.val ∧ (rd 0x08).getLsbD 7 = false ∧
    (rd 0x08).getLsbD 6 = (s.src n).remote ∧ (rd 0x08).extractLsb' 4 2 = (s.src n).filter.code ∧
    (rd 0x08).extractLsb' 1 3 = (s.src n).sense.code ∧ (rd 0x08).getLsbD 0 = (s.src n).enable ∧
    (rd 0x0C).extractLsb' 16 16 = 0 ∧ (rd 0x0C).extractLsb' 8 8 = (s.src n).pending ∧
    (rd 0x0C).getLsbD 7 = false ∧ (rd 0x0C).getLsbD 6 = (s.src n).pendOvr ∧
    (rd 0x0C).getLsbD 5 = s.qualified n ∧ (rd 0x0C).getLsbD 4 = (s.src n).enable ∧
    (rd 0x0C).getLsbD 3 = (s.src n).mask ∧ (rd 0x0C).extractLsb' 0 3 = (s.src n).state.code ∧
    -- the qualified level (R4, R10), the classes (R18), the numbers of line and soft sources
    (∀ l : LineId, s.qualified (lineSource l) =
      if (s.src (lineSource l)).sense = .levelLow then !s.lines[l.val].accepted
      else s.lines[l.val].accepted) ∧
    (∀ k : SoftId, s.qualified (softSource k) = s.softLevels[k.val]) ∧
    [Sense.levelHigh, .levelLow, .rising, .falling, .anyEdge].map (·.isLevel) =
      [true, true, false, false, false] ∧
    (∀ l : LineId, (lineSource l).val = l.val) ∧ (∀ k : SoftId, (softSource k).val = 32 + k.val) ∧
    -- MASK_LO, MASK_HI (R33)
    (∀ l : LineId, (rd 0x10).getLsbD l.val = (s.src (lineSource l)).mask) ∧
    (∀ k : SoftId, (rd 0x14).getLsbD k.val = (s.src (softSource k)).mask) ∧
    (rd 0x14).extractLsb' 8 24 = 0 ∧
    -- LINK_CFG (R182), LINK_EPOCHS (R183)
    (rd 0x34).extractLsb' 21 11 = 0 ∧ (rd 0x34).getLsbD 20 = s.regs.linkCfg.auto ∧
    (rd 0x34).extractLsb' 16 4 = s.regs.linkCfg.retries ∧
    (rd 0x34).extractLsb' 8 8 = s.regs.linkCfg.tack ∧
    (rd 0x34).extractLsb' 4 4 = s.regs.linkCfg.window ∧ (rd 0x34).extractLsb' 2 2 = 0 ∧
    (rd 0x34).extractLsb' 0 2 = s.regs.linkCfg.rate.code ∧
    (rd 0x3C).extractLsb' 16 16 = 0 ∧ (rd 0x3C).extractLsb' 8 8 = s.regs.epochPeer ∧
    (rd 0x3C).extractLsb' 0 8 = s.regs.epochLocal ∧
    -- NOTE_OUT_CTRL, NOTE_OUT_DATA0, NOTE_OUT_DATA1 (R159)
    (let slots : (Slot → Bool) → Nat := fun p =>
      ((List.finRange 4).filter fun k : SlotId => p s.notes.slots[k.val]).length
     let free := slots fun x => match x with | .free => true | .waiting _ => false | .inFlight _ => false
     let waiting := slots fun x => match x with | .free => false | .waiting _ => true | .inFlight _ => false
     let flying := slots fun x => match x with | .free => false | .waiting _ => false | .inFlight _ => true
     (rd 0x44).extractLsb' 27 5 = 0 ∧ ((rd 0x44).extractLsb' 24 3).toNat = flying ∧
      (rd 0x44).getLsbD 23 = false ∧ ((rd 0x44).extractLsb' 20 3).toNat = waiting ∧
      (rd 0x44).getLsbD 19 = false ∧ ((rd 0x44).extractLsb' 16 3).toNat = free ∧
      free + waiting + flying = 4) ∧
    (rd 0x44).extractLsb' 12 4 = 0 ∧ (rd 0x44).extractLsb' 8 4 = s.notes.outLength ∧
    (rd 0x44).extractLsb' 0 8 = s.notes.outTag ∧
    rd 0x48 = s.notes.outData0 ∧ rd 0x4C = s.notes.outData1 ∧
    -- NOTE_IN_HEAD, NOTE_IN_DATA0, NOTE_IN_DATA1 (R167)
    (s.notes.fifo = [] → rd 0x50 = 0 ∧ rd 0x54 = 0 ∧ rd 0x58 = 0) ∧
    (∀ x rest, s.notes.fifo = x :: rest → s.BoundsLaw →
      (rd 0x50).extractLsb' 19 13 = 0 ∧ ((rd 0x50).extractLsb' 16 3).toNat = s.notes.fifo.length ∧
      (rd 0x50).extractLsb' 12 4 = 0 ∧ ((rd 0x50).extractLsb' 8 4).toNat = x.data.length ∧
      (rd 0x50).extractLsb' 0 8 = x.tag ∧
      ∀ i : Fin 4, (rd 0x54).extractLsb' (8 * i.val) 8 = x.data.getD i.val 0 ∧
        (rd 0x58).extractLsb' (8 * i.val) 8 = x.data.getD (4 + i.val) 0) ∧
    -- CAUSE, CAUSE_EN (R184, R185)
    (rd 0x5C).extractLsb' 8 24 = 0 ∧ (rd 0x5C).extractLsb' 0 8 = s.regs.cause ∧
    (rd 0x60).extractLsb' 8 24 = 0 ∧ (rd 0x60).extractLsb' 0 8 = s.regs.causeEn ∧
    -- REFUSE_INFO (R181), UNMATCHED_INFO (R151), REMOTE_INFO (R172), RESET_CAUSE (R189)
    (rd 0x64).extractLsb' 16 16 = s.regs.refuse.operand ∧ (rd 0x64).extractLsb' 12 4 = 0 ∧
    (rd 0x64).extractLsb' 8 4 = s.regs.refuse.reason.code ∧
    (rd 0x64).extractLsb' 0 8 = s.regs.refuse.request ∧
    (rd 0x68).extractLsb' 14 18 = 0 ∧ (rd 0x68).extractLsb' 12 2 = s.regs.unmatched.reason.code ∧
    (rd 0x68).extractLsb' 9 3 = 0 ∧ (rd 0x68).getLsbD 8 = s.regs.unmatched.oldest ∧
    (rd 0x68).extractLsb' 0 8 = s.regs.unmatched.vector ∧
    (rd 0x6C).extractLsb' 10 22 = 0 ∧ (rd 0x6C).extractLsb' 8 2 = s.regs.remote.op.code ∧
    (rd 0x6C).extractLsb' 6 2 = 0 ∧ ((rd 0x6C).extractLsb' 0 6).toNat = s.regs.remote.source.val ∧
    (rd 0x70).extractLsb' 2 30 = 0 ∧ (rd 0x70).extractLsb' 0 2 = s.regs.resetCause.code ∧
    -- the statistics counters (R186)
    rd 0x80 = s.regs.stats.eventsSent ∧ rd 0x84 = s.regs.stats.framesResent ∧
    rd 0x88 = s.regs.stats.badFrames ∧ rd 0x8C = s.regs.stats.eventsWithdrawn ∧
    rd 0x90 = s.regs.stats.completionsUnmatched ∧ rd 0x94 = s.regs.stats.inboundDuplicates ∧
    rd 0x98 = s.regs.stats.inboundDeferred ∧ rd 0x9C = s.regs.stats.sessions ∧
    -- write-action registers, undefined offsets, ignored address bits, and no effect (R178)
    (∀ a ∈ ([0x18, 0x1C, 0x20, 0x24, 0x28, 0x2C, 0x30] : List Byte), rd a = 0) ∧
    (∀ a : Byte, (0x74 ≤ a.toNat ∧ a.toNat < 0x80) ∨ 0xA0 ≤ a.toNat → rd a = 0) ∧
    (∀ a : Byte, rd a = rd (a &&& 0xFC#8)) ∧
    (∀ a : Byte, a &&& 0xFC#8 ≠ 0x38#8 → a &&& 0xFC#8 ≠ 0x40#8 →
      s.takeAccess (.read a) = { s with bus := { s.bus with readData := rd a } }) ∧
    -- the codes of section 11.3, R116 and R181
    [Delivery.idle, .queued, .sent, .delivered, .holdoff].map (·.code) = [0, 1, 2, 3, 4] ∧
    [Sense.levelHigh, .levelLow, .rising, .falling, .anyEdge].map (·.code) = [0, 1, 2, 3, 4] ∧
    [FilterSetting.none, .f2, .f20, .f200].map (·.code) = [0, 1, 2, 3] ∧
    [Rate.mbit2, .mbit5, .mbit10, .mbit20].map (·.code) = [0, 1, 2, 3] ∧
    [Link.disabled, .syncing, .greeting, .active, .failed].map (·.code) = [0, 1, 2, 3, 4] ∧
    [FaultCause.none, .paramMismatch, .greetTimeout, .peerBreak, .peerRestart, .lineErrors,
      .retryLimit].map (·.code) = [0, 1, 2, 3, 4, 5, 6] ∧
    [RefuseReason.none, .cfgBusy, .badSource, .badValue, .notSoft, .linkBusy, .noteFull,
      .empty].map (·.code) = [0, 1, 2, 3, 4, 5, 6, 7] ∧
    [UnmatchedReason.none, .noMatch, .listEmpty, .badOldest].map (·.code) = [0, 1, 2, 3] ∧
    [RemoteOp.none, .mask, .unmask].map (·.code) = [0, 1, 2] ∧
    [ResetCause.pin, .command].map (·.code) = [1, 2]

/-- Outside a device reset, SRC_INDEX, LINK_CFG, CAUSE_EN and the note staging registers are changed by
their own writes alone. -/
def Obligations.RegistersChangeByTheirOwnWritesAlone : Prop :=
  ∀ (c : Instr) (s t : State), s.resetting = none → c.wellFormed = true → exec c s = .next t →
    t.resetting = none →
    ((∀ v, c ≠ .srcIndexWrite v) → t.regs.srcIndex = s.regs.srcIndex) ∧
    ((∀ v, c ≠ .linkCfgWrite v) → t.regs.linkCfg = s.regs.linkCfg) ∧
    ((∀ v, c ≠ .causeEnWrite v) → t.regs.causeEn = s.regs.causeEn) ∧
    ((∀ a v, c ≠ .registerWrite a v) → t.notes.outTag = s.notes.outTag ∧
      t.notes.outLength = s.notes.outLength ∧ t.notes.outData0 = s.notes.outData0 ∧
      t.notes.outData1 = s.notes.outData1)

/-- An access of the local bus taken after its wait does what the command that it is does at once: the
registers have one meaning, whichever way an access reaches them. Which command an access is, by its offset in
the map: a write of a register with a row of its own, a write to CMD (by its code, as
`UnknownCommandCodesAreRefused` says), every other write as REGISTER_WRITE, and the two reads that change
state. A command that some access is names such an access itself. -/
def Obligations.AccessDoesWhatItsCommandDoes : Prop :=
  (∀ (c : Instr) (a : Access) (s : State), s.resetting = none → a.command = some c →
    exec c s = .next (s.takeAccess a).ready) ∧
  (∀ (c : Instr) (a : Access), a.command = some c → ∃ b, c.access = some b ∧ b.command = some c) ∧
  (∀ (a : Byte) (v : Word),
    let offset := a &&& 0xFC#8
    (offset = 0x04#8 → Access.command (.write a v) = some (.srcIndexWrite v)) ∧
    (offset = 0x08#8 → Access.command (.write a v) = some (.srcConfigWrite v)) ∧
    (offset = 0x18#8 → Access.command (.write a v) = some (.maskSetLo v)) ∧
    (offset = 0x1C#8 → Access.command (.write a v) = some (.maskSetHi v)) ∧
    (offset = 0x20#8 → Access.command (.write a v) = some (.maskClrLo v)) ∧
    (offset = 0x24#8 → Access.command (.write a v) = some (.maskClrHi v)) ∧
    (offset = 0x28#8 → Access.command (.write a v) = some (.softRaise v)) ∧
    (offset = 0x2C#8 → Access.command (.write a v) = some (.softLower v)) ∧
    (offset = 0x30#8 → Access.command (.write a v) = some (commandOfWrite 0x30#8 v)) ∧
    (offset = 0x34#8 → Access.command (.write a v) = some (.linkCfgWrite v)) ∧
    (offset = 0x5C#8 → Access.command (.write a v) = some (.causeWrite v)) ∧
    (offset = 0x60#8 → Access.command (.write a v) = some (.causeEnWrite v)) ∧
    (offset ∉ ([0x04, 0x08, 0x18, 0x1C, 0x20, 0x24, 0x28, 0x2C, 0x30, 0x34, 0x5C, 0x60] : List Byte) →
      Access.command (.write a v) = some (.registerWrite a v)) ∧
    (offset = 0x38#8 → Access.command (.read a) = some .linkStatusRead) ∧
    (offset = 0x40#8 → Access.command (.read a) = some .linkFaultRead) ∧
    (offset ≠ 0x38#8 → offset ≠ 0x40#8 → Access.command (.read a) = none))

/-! ### Characters and frames (spec/05) -/

/-- Every character sent is 11 bit times: start 0, the data bits least significant first, even parity and
stop 1; SYNC and SOF have parity 0; a received character is good exactly when its parity agrees and its stop
bit is 1. The CRC begins at 0xFFFF and takes each byte in eight steps with 0x1021; it gives 0x29B1 over 0x31 to
0x39, and a register of 0 over any bytes with their own CRC behind them, high byte first. -/
def Obligations.CharactersAndCrc : Prop :=
  (∀ b : Byte, (charWire b).length = 11 ∧ (charWire b)[0]? = some false ∧
    (∀ i : Fin 8, (charWire b)[i.val + 1]? = some (b.getLsbD i.val)) ∧
    (((charWire b).drop 1).take 9).count true % 2 = 0 ∧ (charWire b)[10]? = some true) ∧
  charWire 0xD2#8 = [false, false, true, false, false, true, false, true, true, false, true] ∧
  charWire 0xA9#8 = [false, true, false, false, true, false, true, false, true, false, true] ∧
  (∀ (c : RxChar) (v : Byte), charValue c = some v ↔
    c.data = v ∧ c.stop = true ∧ charWire c.data = [false] ++
      (List.finRange 8).map (fun i => c.data.getLsbD i.val) ++ [c.parity, true]) ∧
  (∀ b : Byte, charValue (goodChar b) = some b) ∧
  crc16 [] = 0xFFFF#16 ∧
  (∀ (bytes : List Byte) (b : Byte), crc16 (bytes ++ [b]) =
    (List.range 8).foldl (fun r _ => if r.getLsbD 15 then (r <<< 1) ^^^ 0x1021#16 else r <<< 1)
      (crc16 bytes ^^^ (b ++ (0 : BitVec 8)))) ∧
  crc16 [0x31, 0x32, 0x33, 0x34, 0x35, 0x36, 0x37, 0x38, 0x39] = 0x29B1#16 ∧
  ∀ bytes : List Byte,
    crc16 (bytes ++ [(crc16 bytes).extractLsb' 8 8, (crc16 bytes).extractLsb' 0 8]) = 0

/-- The bytes of every item sent, its characters back to back, its length in bit times, and the level of the
transmit pair: the item's own while it is sent, and 1 after its end and while nothing is sent. -/
def Obligations.ItemsAreSentAsFrames : Prop :=
  let framed : List Byte → List Byte := fun body =>
    [0xA9#8] ++ body ++ [(crc16 body).extractLsb' 8 8, (crc16 body).extractLsb' 0 8]
  let seqByte : SeqNum → Byte := fun n => n.setWidth 8
  Item.sync.wire = charWire 0xD2#8 ∧ Item.brk.wire = List.replicate 32 false ∧
  (∀ heard window epoch, (Item.hello heard window epoch).bytes =
    framed [if heard then 0x11#8 else 0x10#8, 0, 4, 2, window.setWidth 8, epoch, 1]) ∧
  (∀ n, (Item.ack n).bytes = framed [0x20#8, seqByte n, 0]) ∧
  (∀ n, (Item.nak n).bytes = framed [0x30#8, seqByte n, 0]) ∧
  (∀ n (m : Message), (Item.sequenced { seq := n, body := .event m }).bytes =
    framed [0x40#8 + (if m.resent then 4 else 0) + (if m.overrun then 2 else 0) +
      (if m.level then 1 else 0), seqByte n, 4, BitVec.ofNat 8 m.source.val, m.vector,
      BitVec.ofNat 8 (m.dest.toNat * 16 + m.prio.val), m.count]) ∧
  (∀ n k (x : Note), (Item.sequenced { seq := n, body := .note k x }).bytes =
    framed ([0x50#8, seqByte n, BitVec.ofNat 8 (1 + x.data.length), x.tag] ++ x.data)) ∧
  (∀ n (r : Reply), (Item.sequenced { seq := n, body := .reply r }).bytes =
    framed ([0x60#8, seqByte n, BitVec.ofNat 8 (3 + 3 * r.records.length), r.tag, r.result.code,
      BitVec.ofNat 8 r.records.length] ++ r.records.flatMap fun x =>
        [BitVec.ofNat 8 x.source.val,
          (0 : BitVec 2) ++ BitVec.ofBool x.level ++ BitVec.ofBool x.enable ++ BitVec.ofBool x.mask ++
            x.state.code, x.pending])) ∧
  [ReplyResult.ok, .badRequest, .badSource, .notPermitted].map (·.code) = [0, 1, 2, 3] ∧
  (∀ i : Item, i ≠ .brk → i.wire = i.bytes.flatMap charWire ∧ i.bitTimes = 11 * i.bytes.length) ∧
  (∀ s : State, s.tx = none → ∀ k, s.txLevel k = true) ∧
  (∀ (s : State) (i : Item), s.tx = some i → ∀ k,
    (∀ h : k < i.wire.length, s.txLevel k = i.wire[k]) ∧ (i.wire.length ≤ k → s.txLevel k = true)) ∧
  (∀ r : FrameRecord, (Item.sequenced r).bitTimes = 11 * (6 + r.body.payload.length))

/-- A good frame arriving character by character, outside any other frame, does what its frame command
does: the two ways a frame reaches the model are one (assumption log 1). Flag bits without a name, and bits 5
to 0 of the SEQ of a HELLO, make no difference. -/
def Obligations.CharactersOfAFrameAreItsCommand : Prop :=
  ∀ (f : RxFrame) (spare : BitVec 4) (helloSeq : SeqNum) (s : State), s.resetting = none →
    s.session.link = .greeting ∨ s.session.link = .active → s.receiver.assembly = none →
    f.command.wellFormed = true →
    execAll ((f.bytes spare helloSeq).map fun b => .character (goodChar b)) s = exec f.command s

/-- In SYNCING a good SYNC raises the SYNC count and any other outcome sets it to 0; the fourth in a row
enters GREETING with the next epoch, HELLO due, and the greeting timeout and interval started. -/
def Obligations.FourthSyncEntersGreeting : Prop :=
  ∀ (s : State) (c : RxChar), s.resetting = none → s.session.link = .syncing →
    (charValue c ≠ some 0xD2#8 → exec (.character c) s =
      .next { s with session := { s.session with syncCount := 0 } }) ∧
    (charValue c = some 0xD2#8 → s.session.syncCount < 3 → exec (.character c) s =
      .next { s with session := { s.session with syncCount := s.session.syncCount + 1 } }) ∧
    (charValue c = some 0xD2#8 → s.session.syncCount = 3 → exec (.character c) s = .next { s with
      session := { s.session with
        link := .greeting, syncCount := 0, localEpoch := s.session.localEpoch + 1, heard := false,
        agreed := 0, greetTimeout := some s.now },
      arbiter := { s.arbiter with helloDue := true, greetInterval := some s.now },
      receiver := { s.receiver with assembly := none } })

/-- Frame assembly's own steps: HUNT discards all but a good SOF; a good byte and a byte in error are added
to a frame that is not complete; a fourth character in error or above 27 makes the frame bad; and a frame
that is complete is bad with a character in error, with another CRC, with bit 7 or 6 of SEQ set, or with a
kind or a length that the device does not accept. Characters are ignored in DISABLED and FAILED. -/
def Obligations.FrameAssemblyTakesCharacters : Prop :=
  ∀ (s : State) (c : RxChar), s.resetting = none →
    (s.session.link = .disabled ∨ s.session.link = .failed → exec (.character c) s = .next s) ∧
    (s.session.link = .greeting ∨ s.session.link = .active →
      (s.receiver.assembly = none → exec (.character c) s = .next
        (if charValue c = some 0xA9#8 then { s with
          receiver := { s.receiver with
            assembly := some { received := 1, len := none, errorMark := false, bytes := [] } } }
        else s)) ∧
      ∀ a, s.receiver.assembly = some a →
        (a.received < 3 → a.len = none → exec (.character c) s = .next { s with
          receiver := { s.receiver with
            assembly := some
              { received := a.received + 1, len := none,
                errorMark := a.errorMark || (charValue c).isNone,
                bytes := a.bytes ++ (charValue c).toList } } }) ∧
        (a.received = 3 →
          (∀ v, charValue c = some v → v.toNat ≤ 27 → exec (.character c) s = .next { s with
            receiver := { s.receiver with
              assembly := some
                { received := 4, len := some v.toNat, errorMark := a.errorMark,
                  bytes := a.bytes ++ [v] } } }) ∧
          (∀ v, charValue c = some v → 28 ≤ v.toNat → exec (.character c) s = exec .characterGap s) ∧
          (charValue c = none → exec (.character c) s = exec .characterGap s)) ∧
        (∀ l, 4 ≤ a.received → a.len = some l → a.received + 1 < 6 + l → exec (.character c) s =
          .next { s with
            receiver := { s.receiver with
              assembly := some
                { received := a.received + 1, len := some l,
                  errorMark := a.errorMark || (charValue c).isNone,
                  bytes := a.bytes ++ (charValue c).toList } } }) ∧
        (∀ l, 4 ≤ a.received → a.len = some l → a.received + 1 = 6 + l →
          (a.errorMark = true ∨ charValue c = none → exec (.character c) s = exec .characterGap s) ∧
          ∀ hdr sq ln hi lo payload, charValue c = some lo → a.errorMark = false →
            a.bytes = hdr :: sq :: ln :: payload ++ [hi] → payload.length = ln.toNat →
            (crc16 (hdr :: sq :: ln :: payload) ≠ hi ++ lo ∨ 64 ≤ sq.toNat ∨
              (match (hdr.extractLsb' 4 4).toNat with
                | 1 => payload.length ≠ 4
                | 2 => payload.length ≠ 0
                | 3 => payload.length ≠ 0
                | 5 => payload.length < 2 ∨ 9 < payload.length
                | 8 => payload.length ≠ 1
                | 9 => payload.length ≠ 4
                | _ => True)) →
            exec (.character c) s = exec .characterGap s))

/-- A bad frame, here by a character gap: counted in BAD_FRAMES; in ACTIVE the consecutive count rises, and
the eighth ends the session with LINE_ERRORS. Outside a frame a gap does nothing. -/
def Obligations.BadFramesAreCountedToLineErrors : Prop :=
  ∀ s : State, s.resetting = none →
    let counted : State := { s with
      receiver := { s.receiver with assembly := none },
      regs := { s.regs with stats := { s.regs.stats with
        badFrames := saturate32 s.regs.stats.badFrames 1 } } }
    (s.receiver.assembly = none → exec .characterGap s = .next s) ∧
    (s.receiver.assembly ≠ none →
      (s.session.link = .greeting → exec .characterGap s = .next counted) ∧
      (s.session.link = .active → s.receiver.badRun + 1 < 8 → exec .characterGap s = .next
        { counted with receiver := { s.receiver with
          assembly := none, badRun := s.receiver.badRun + 1 } }) ∧
      (s.session.link = .active → s.receiver.badRun + 1 = 8 → s.Inv →
        ∃ t, exec .characterGap s = .next t ∧ SessionFailed counted t .lineErrors))

/-- A break by link state: SYNC count 0 in SYNCING, back to SYNCING from GREETING, PEER_BREAK in ACTIVE,
ignored in DISABLED and FAILED; a frame in assembly is discarded and not counted. -/
def Obligations.BreakActsByLinkState : Prop :=
  ∀ s : State, s.resetting = none →
    (s.session.link = .disabled ∨ s.session.link = .failed → exec .lineBreak s =
      .next { s with receiver := { s.receiver with assembly := none } }) ∧
    (s.session.link = .syncing → exec .lineBreak s = .next { s with
      session := { s.session with syncCount := 0 },
      receiver := { s.receiver with assembly := none } }) ∧
    (s.session.link = .greeting → exec .lineBreak s = .next { s with
      session := { s.session with
        link := .syncing, syncCount := 0, heard := false, agreed := 0, greetTimeout := none },
      arbiter := { s.arbiter with helloDue := false, greetInterval := none },
      receiver := { s.receiver with assembly := none } }) ∧
    (s.session.link = .active → s.Inv →
      ∃ t, exec .lineBreak s = .next t ∧ SessionFailed s t .peerBreak)

/-! ### Greeting and session (spec/06) -/

/-- A good HELLO in GREETING: PARAM_MISMATCH for a wrong revision, window or role; otherwise recorded with
the smaller window, and with HEARD 1 the session starts (what it sets: assumption log 14). -/
def Obligations.HelloInGreetingRecordsOrStarts : Prop :=
  ∀ (s : State) (heard : Bool) (revision window epoch role : Byte), s.resetting = none →
    s.session.link = .greeting →
    let valid : Prop := revision = 2 ∧ 1 ≤ window.toNat ∧ window.toNat ≤ 8 ∧ role = 2
    let agreed : BitVec 4 := BitVec.ofNat 4 (min window.toNat s.regs.linkCfg.window.toNat)
    (valid → heard = false → exec (.hello heard revision window epoch role) s = .next { s with
      session := { s.session with peerEpoch := epoch, heard := true, agreed := agreed },
      receiver := { s.receiver with assembly := none } }) ∧
    (valid → heard = true → exec (.hello heard revision window epoch role) s = .next { s with
      session := { s.session with
        link := .active, peerEpoch := epoch, heard := true, agreed := agreed, greetTimeout := none },
      window := { records := [], next := 0, retry := 0, timer := none },
      receiver := { assembly := none, badRun := 0, expected := 0, nakSent := false },
      arbiter := { s.arbiter with
        turn := .note, resend := none, finalHelloDue := true, helloDue := false, greetInterval := none },
      regs := { s.regs with
        cause := s.regs.cause ||| 0x01#8,
        stats := { s.regs.stats with sessions := saturate32 s.regs.stats.sessions 1 } } }) ∧
    (¬valid → exec (.hello heard revision window epoch role) s = .next (State.withCause { s with
      session := { s.failedSession .paramMismatch with heard := false },
      arbiter := { s.arbiter with helloDue := false, greetInterval := none },
      receiver := { s.receiver with assembly := none }, tx := some .brk } 0x02#8))

/-- A good HELLO in ACTIVE is compared by its epoch alone: the same is discarded, another ends the session
with PEER_RESTART. -/
def Obligations.HelloInActiveIsComparedByEpoch : Prop :=
  ∀ (s : State) (heard : Bool) (revision window epoch role : Byte), s.resetting = none →
    s.session.link = .active →
    (epoch = s.session.peerEpoch →
      exec (.hello heard revision window epoch role) s = .next s.goodTaken) ∧
    (epoch ≠ s.session.peerEpoch → s.Inv → ∃ t,
      exec (.hello heard revision window epoch role) s = .next t ∧ SessionFailed s t .peerRestart)

/-- Good frames other than HELLO are discarded in GREETING, and no good frame has an effect in DISABLED,
SYNCING and FAILED (the latter is the MODEL's reading: assumption log 1). -/
def Obligations.GoodFramesOutsideASessionAreDiscarded : Prop :=
  ∀ (s : State) (f : RxFrame), s.resetting = none → f.command.wellFormed = true →
    (s.session.link = .disabled ∨ s.session.link = .syncing ∨ s.session.link = .failed →
      exec f.command s = .next s) ∧
    (s.session.link = .greeting → (∀ h r w e p, f ≠ .hello h r w e p) →
      exec f.command s = .next { s with receiver := { s.receiver with assembly := none } })

/-- The three expiries of GREETING and FAILED: the greeting interval makes a HELLO due and starts again, the
greeting timeout fails the link, the restart delay returns to SYNCING without a break; each has no effect
when its timer is stopped (the MODEL's choice: assumption log 3; a break under way: assumption log 15). -/
def Obligations.GreetingAndRestartTimersExpire : Prop :=
  ∀ s : State, s.resetting = none → s.SessionLaw → s.TxLaw →
    (s.session.link = .greeting →
      exec .greetingIntervalExpiry s = .next { s with arbiter := { s.arbiter with
        helloDue := true, greetInterval := some s.now } } ∧
      exec .greetTimeout s = .next (State.withCause { s with
        session := { s.failedSession .greetTimeout with heard := false },
        arbiter := { s.arbiter with helloDue := false, greetInterval := none },
        receiver := { s.receiver with assembly := none }, tx := some .brk } 0x02#8)) ∧
    (s.session.link ≠ .greeting → exec .greetingIntervalExpiry s = .next s ∧
      exec .greetTimeout s = .next s) ∧
    (s.session.link = .failed → s.regs.linkCfg.auto = true → exec .restartDelayExpiry s = .next { s with
      session := { s.session with link := .syncing, syncCount := 0, restartDelay := none },
      receiver := { s.receiver with assembly := none },
      tx := if s.tx = none then some .sync else s.tx }) ∧
    (s.session.link ≠ .failed ∨ s.regs.linkCfg.auto = false → exec .restartDelayExpiry s = .next s)

/-! ### The Retransmit Window (spec/07) -/

/-- A good ACK in ACTIVE: a number in the Window removes that record and every older one as acknowledged,
clears the retry count, moves the resend point and restarts or stops the timer; any other is ignored. -/
def Obligations.AckRemovesTheNamedAndOlderRecords : Prop :=
  ∀ (s : State) (n : SeqNum), s.resetting = none → s.session.link = .active → s.Inv →
    (∀ k, (h : k < s.window.records.length) → s.window.records[k].seq = n →
      ∃ t, exec (.ack n) s = .next t ∧ AckedOutcome s t (k + 1) ∧
        t.receiver = { s.receiver with assembly := none, badRun := 0 } ∧
        t.window = { s.window with
          records := s.window.records.drop (k + 1), retry := 0,
          timer := if s.window.records.drop (k + 1) = [] then none else some s.now } ∧
        t.arbiter = { s.arbiter with resend :=
          if (s.window.records.take (k + 1)).any fun r => decide (s.arbiter.resend = some r.seq) then
            (s.window.records.drop (k + 1)).head?.map (·.seq) else s.arbiter.resend }) ∧
    ((∀ r ∈ s.window.records, r.seq ≠ n) → exec (.ack n) s = .next s.goodTaken)

/-- A good NAK in ACTIVE: a number in the Window removes every older record as acknowledged, sets the
resend point, restarts the timer and counts a retry, which past RETRIES ends the session; any other is
ignored. -/
def Obligations.NakResendsFromTheNamedRecord : Prop :=
  ∀ (s : State) (n : SeqNum), s.resetting = none → s.session.link = .active → s.Inv →
    (∀ k, (h : k < s.window.records.length) → s.window.records[k].seq = n →
      (s.window.retry < s.regs.linkCfg.retries.toNat →
        ∃ t, exec (.nak n) s = .next t ∧ AckedOutcome s t k ∧
          t.receiver = { s.receiver with assembly := none, badRun := 0 } ∧
          t.window = { s.window with
            records := s.window.records.drop k, retry := s.window.retry + 1, timer := some s.now } ∧
          t.arbiter = { s.arbiter with resend := some n }) ∧
      (s.window.retry = s.regs.linkCfg.retries.toNat →
        ∃ u t, exec (.nak n) s = .next t ∧ AckedOutcome s u k ∧
          u.window = { s.window with records := s.window.records.drop k } ∧
          u.arbiter = s.arbiter ∧ u.receiver = s.receiver ∧ SessionFailed u t .retryLimit)) ∧
    ((∀ r ∈ s.window.records, r.seq ≠ n) → exec (.nak n) s = .next s.goodTaken)

/-- The acknowledgment timer: an expiry counts a retry, sets the resend point to the oldest record and
restarts the timer, and past RETRIES ends the session; with the timer stopped the command has no effect,
which is the MODEL's choice (assumption log 3). -/
def Obligations.AckTimerExpiryResendsFromTheOldest : Prop :=
  ∀ s : State, s.resetting = none → s.Inv →
    (s.window.timer = none → exec .acknowledgmentTimerExpiry s = .next s) ∧
    (∀ r rs, s.window.timer ≠ none → s.window.records = r :: rs →
      (s.window.retry < s.regs.linkCfg.retries.toNat →
        exec .acknowledgmentTimerExpiry s = .next { s with
          window := { s.window with retry := s.window.retry + 1, timer := some s.now },
          arbiter := { s.arbiter with resend := some r.seq } }) ∧
      (s.window.retry = s.regs.linkCfg.retries.toNat →
        ∃ t, exec .acknowledgmentTimerExpiry s = .next t ∧ SessionFailed s t .retryLimit))

/-- The classes of an inbound sequenced frame by d = (s − E) modulo 64: 32 to 63 is a duplicate, which draws
ACK E − 1 and is counted; 1 to 31 is ahead, which draws one NAK E; 0 is expected, and an expected NOTE with
the FIFO full or CONTROL with the Reply Queue full is deferred: counted, and nothing else. -/
def Obligations.SequenceClassDecidesTheFrame : Prop :=
  ∀ (s : State) (f : RxFrame) (n : SeqNum), s.resetting = none → s.session.link = .active →
    f.command.wellFormed = true →
    (∃ oldest v, f = .complete n oldest v) ∨
      (∃ tag data, f = .note n tag data ∧ (n = s.receiver.expected → 4 ≤ s.notes.fifo.length)) ∨
      (∃ tag op first count, f = .control n tag op first count ∧
        (n = s.receiver.expected → 2 ≤ s.replies.length)) →
    (32 ≤ (n - s.receiver.expected).toNat → exec f.command s = .next { s.goodTaken with
      arbiter := { s.arbiter with ackDue := some (s.receiver.expected - 1) },
      regs := { s.regs with
        stats := { s.regs.stats with
          inboundDuplicates := saturate32 s.regs.stats.inboundDuplicates 1 } } }) ∧
    (1 ≤ (n - s.receiver.expected).toNat → (n - s.receiver.expected).toNat ≤ 31 →
      exec f.command s = .next
        (if s.receiver.nakSent = true then s.goodTaken
        else { s with
          arbiter := { s.arbiter with nakDue := some s.receiver.expected },
          receiver := { s.receiver with assembly := none, badRun := 0, nakSent := true } })) ∧
    (n = s.receiver.expected → (∀ oldest v, f ≠ .complete n oldest v) →
      exec f.command s = .next { s.goodTaken with
        regs := { s.regs with
          stats := { s.regs.stats with
            inboundDeferred := saturate32 s.regs.stats.inboundDeferred 1 } } })

/-! ### Completions (spec/08) -/

/-- An expected COMPLETE that matches: by vector it releases every entry of that vector in list order, as
oldest the first entry alone; each goes to HOLDOFF, or to IDLE and is re-evaluated. -/
def Obligations.CompletionReleasesTheMatchedEntries : Prop :=
  ∀ (s : State) (oldest : Bool) (v : Byte) (released : List SourceId), s.resetting = none →
    s.session.link = .active → s.Inv → released ≠ [] →
    (oldest = false ∧ released = s.delivered.filter (fun n => (s.src n).vector = v)) ∨
      (oldest = true ∧ v = 0 ∧ released = s.delivered.take 1) →
    ∃ t, exec (.complete s.receiver.expected oldest v) s = .next t ∧
      t.delivered = s.delivered.filter (fun n => n ∉ released) ∧
      (∀ n, t.src n = if n ∈ released then
          (if (s.src n).hold ≠ 0 then { s.src n with state := .holdoff, holdoff := some s.now }
          else { s.src n with state := if s.asserts n then .queued else .idle })
        else s.src n) ∧
      (∀ c : Fin 4, t.queue[c.val] = s.queue[c.val] ++
        (released.filter fun n => decide ((s.src n).hold = 0) && decide (s.asserts n) &&
          decide ((s.src n).prio = c)).map fun n => s.levelMessage n false) ∧
      t = { s with
        delivered := t.delivered, sources := t.sources, queue := t.queue,
        receiver := receiverAfter s.receiver.expected,
        arbiter := s.receivedArbiter s.receiver.expected }

/-- An expected COMPLETE that matches nothing: NO_MATCH, LIST_EMPTY or BAD_OLDEST; it is counted, flagged
and recorded, and acknowledged like any other. -/
def Obligations.UnmatchedCompletionIsRecorded : Prop :=
  ∀ (s : State) (oldest : Bool) (v : Byte) (reason : UnmatchedReason), s.resetting = none →
    s.session.link = .active →
    (oldest = false ∧ (∀ n ∈ s.delivered, (s.src n).vector ≠ v) ∧ reason = .noMatch) ∨
      (oldest = true ∧ v = 0 ∧ s.delivered = [] ∧ reason = .listEmpty) ∨
      (oldest = true ∧ v ≠ 0 ∧ reason = .badOldest) →
    exec (.complete s.receiver.expected oldest v) s = .next { s with
      receiver := receiverAfter s.receiver.expected,
      arbiter := s.receivedArbiter s.receiver.expected,
      regs := { s.regs with
        cause := s.regs.cause ||| 0x10#8,
        unmatched := { vector := v, oldest := oldest, reason := reason },
        stats := { s.regs.stats with
          completionsUnmatched := saturate32 s.regs.stats.completionsUnmatched 1 } } }

/-! ### Inbound notes and Control requests (spec/09, spec/10) -/

/-- An expected NOTE of 1 to 8 bytes with room in the FIFO is appended at its tail with NOTE_IN set; a NOTE
of another length is a bad frame (assumption log 10). -/
def Obligations.NoteIsAppendedToTheFifo : Prop :=
  ∀ (s : State) (tag : Byte) (data : List Byte), s.resetting = none → s.session.link = .active →
    (1 ≤ data.length → data.length ≤ 8 → s.notes.fifo.length < 4 →
      exec (.note s.receiver.expected tag data) s = .next { s with
        notes := { s.notes with fifo := s.notes.fifo ++ [{ tag := tag, data := data }] },
        receiver := receiverAfter s.receiver.expected,
        arbiter := s.receivedArbiter s.receiver.expected,
        regs := { s.regs with cause := s.regs.cause ||| 0x04#8 } }) ∧
    (data.length = 0 ∨ 9 ≤ data.length → s.receiver.badRun + 1 < 8 → ∀ n,
      exec (.note n tag data) s = .next { s with
        receiver := { s.receiver with assembly := none, badRun := s.receiver.badRun + 1 },
        regs := { s.regs with stats := { s.regs.stats with
          badFrames := saturate32 s.regs.stats.badFrames 1 } } })

/-- An expected CONTROL that fails a check: one reply with its result and no record, and nothing else. -/
def Obligations.ControlThatFailsACheckIsAnsweredAlone : Prop :=
  ∀ (s : State) (tag op first count : Byte) (result : ReplyResult), s.resetting = none →
    s.session.link = .active → s.replies.length < 2 →
    let mask : Prop := op = 1 ∨ op = 2
    ((¬mask ∧ op ≠ 3 ∧ result = .badRequest) ∨
      (mask ∧ count ≠ 1 ∧ result = .badRequest) ∨
      (op = 3 ∧ (count = 0 ∨ 9 ≤ count.toNat) ∧ result = .badRequest) ∨
      (mask ∧ count = 1 ∧ 40 ≤ first.toNat ∧ result = .badSource) ∨
      (op = 3 ∧ count ≠ 0 ∧ count.toNat ≤ 8 ∧ 40 < first.toNat + count.toNat ∧ result = .badSource) ∨
      (mask ∧ count = 1 ∧ (∃ n : SourceId, first.toNat = n.val ∧ (s.src n).remote = false) ∧
        result = .notPermitted)) →
    exec (.control s.receiver.expected tag op first count) s = .next { s with
      replies := s.replies ++ [{ tag := tag, result := result, records := [] }],
      receiver := receiverAfter s.receiver.expected,
      arbiter := s.receivedArbiter s.receiver.expected }

/-- A permitted MASK or UNMASK is taken as a local mask request, sets REMOTE_ACTION, is recorded in
REMOTE_INFO, and is answered with the source as it then stands. -/
def Obligations.RemoteMaskIsTakenAndAnswered : Prop :=
  ∀ (s : State) (tag op first : Byte) (n : SourceId), s.resetting = none → s.session.link = .active →
    s.replies.length < 2 → first.toNat = n.val → (s.src n).remote = true → op = 1 ∨ op = 2 →
    ∃ t, exec (.control s.receiver.expected tag op first 1) s = .next t ∧
      (let masked : State := { s with
          sources := s.sources.set n.val
            { s.src n with mask := true, pending := 0, pendOvr := false } n.isLt }
        let cleared : State := { s with
          sources := s.sources.set n.val { s.src n with mask := false } n.isLt }
        let u : State :=
          if op = 1 then
            (if (s.src n).state = .queued then masked.unplaced n else masked)
          else (if (s.src n).state = .idle then cleared.checked n false else cleared)
        t = { u with
          replies := s.replies ++
            [{ tag := tag, result := .ok,
               records := [
                 { source := n, state := (u.src n).state, mask := (u.src n).mask,
                   enable := (u.src n).enable, level := u.qualified n,
                   pending := (u.src n).pending }] }],
          receiver := receiverAfter s.receiver.expected,
          arbiter := s.receivedArbiter s.receiver.expected,
          regs := { u.regs with
            cause := s.regs.cause ||| 0x20#8,
            remote := { source := n, op := if op = 1 then .mask else .unmask } } })

/-- A QUERY in range is answered with one record for each source of the run, in increasing order, as it
stands, and changes no source. -/
def Obligations.QueryCapturesARunOfSources : Prop :=
  ∀ (s : State) (tag first count : Byte), s.resetting = none → s.session.link = .active →
    s.replies.length < 2 → count ≠ 0 → count.toNat ≤ 8 → first.toNat + count.toNat ≤ 40 →
    ∃ records : List SourceRecord,
      records.length = count.toNat ∧
      (∀ i, (h : i < records.length) → records[i].source.val = first.toNat + i ∧
        records[i].state = (s.src records[i].source).state ∧
        records[i].mask = (s.src records[i].source).mask ∧
        records[i].enable = (s.src records[i].source).enable ∧
        records[i].level = s.qualified records[i].source ∧
        records[i].pending = (s.src records[i].source).pending) ∧
      exec (.control s.receiver.expected tag 3 first count) s = .next { s with
        replies := s.replies ++ [{ tag := tag, result := .ok, records := records }],
        receiver := receiverAfter s.receiver.expected,
        arbiter := s.receivedArbiter s.receiver.expected }

/-! ### Transmit arbitration (spec/04) -/

/-- A boundary outside ACTIVE: SYNC characters in SYNCING, a HELLO when it is due and else SYNC in
GREETING, idle in DISABLED and FAILED. That a boundary is a command of its own is the MODEL's reading
(assumption log 2), here and below. -/
def Obligations.BoundaryOutsideASession : Prop :=
  ∀ s : State, s.resetting = none → s.TxLaw →
    (s.session.link = .syncing → exec .frameBoundary s = .next { s with tx := some .sync }) ∧
    (s.session.link = .greeting → exec .frameBoundary s = .next
      (if s.arbiter.helloDue = true then { s with
        arbiter := { s.arbiter with helloDue := false },
        tx := some (.hello s.session.heard s.regs.linkCfg.window s.session.localEpoch) }
      else { s with tx := some .sync })) ∧
    (s.session.link = .disabled ∨ s.session.link = .failed →
      exec .frameBoundary s = .next { s with tx := none })

/-- A boundary in ACTIVE, before any new frame: the final HELLO, then a NAK due, then an ACK due, then the
frame at the resend point, which advances to the next newer record or empties. -/
def Obligations.BoundarySendsDueItemsFirst : Prop :=
  ∀ s : State, s.resetting = none → s.session.link = .active → s.Inv →
    (s.arbiter.finalHelloDue = true → exec .frameBoundary s = .next { s.itemEnded with
      arbiter := { s.arbiter with finalHelloDue := false },
      tx := some (.hello true s.regs.linkCfg.window s.session.localEpoch) }) ∧
    (s.arbiter.finalHelloDue = false →
      (∀ n, s.arbiter.nakDue = some n → exec .frameBoundary s = .next { s.itemEnded with
        arbiter := { s.arbiter with nakDue := none }, tx := some (.nak n) }) ∧
      (s.arbiter.nakDue = none →
        (∀ n, s.arbiter.ackDue = some n → exec .frameBoundary s = .next { s.itemEnded with
          arbiter := { s.arbiter with ackDue := none }, tx := some (.ack n) }) ∧
        (s.arbiter.ackDue = none → ∀ k, (h : k < s.window.records.length) →
          s.arbiter.resend = some s.window.records[k].seq → exec .frameBoundary s = .next
            { s.itemEnded with
              arbiter := { s.arbiter with resend := s.window.records[k + 1]?.map (·.seq) },
              tx := some (.sequenced s.window.records[k]),
              regs := { s.regs with stats := { s.regs.stats with
                framesResent := saturate32 s.regs.stats.framesResent 1 } } })))

/-- A boundary in ACTIVE with nothing due and room in the Window grants a reply, then the head of class 3,
then a note or a lower event, by the turn bit when both wait; with no room or nothing to send the
transmitter goes idle. -/
def Obligations.BoundaryGrantsOneNewFrame : Prop :=
  ∀ s : State, s.resetting = none → s.session.link = .active → s.Inv →
    s.arbiter.finalHelloDue = false → s.arbiter.nakDue = none → s.arbiter.ackDue = none →
    s.arbiter.resend = none →
    let u := s.itemEnded
    let event : Fin 4 → Message → List Message → Turn → State := fun c m rest turn =>
      { u.granted (.event m) with
        queue := s.queue.set c.val rest c.isLt,
        sources := s.sources.set m.source.val { s.src m.source with state := .sent } m.source.isLt,
        arbiter := { s.arbiter with turn := turn },
        regs := { s.regs with stats := { s.regs.stats with
          eventsSent := saturate32 s.regs.stats.eventsSent 1 } } }
    let noted : SlotId → Note → Turn → State := fun k x turn =>
      { u.granted (.note k x) with
        notes := { s.notes with
          slots := s.notes.slots.set k.val (.inFlight x) k.isLt, order := s.notes.order.tail },
        arbiter := { s.arbiter with turn := turn } }
    (s.window.records.length = s.session.agreed.toNat → exec .frameBoundary s =
      .next { u with tx := none }) ∧
    (s.window.records.length < s.session.agreed.toNat →
      (∀ r rs, s.replies = r :: rs → exec .frameBoundary s =
        .next { u.granted (.reply r) with replies := rs }) ∧
      (s.replies = [] →
        (∀ m ms, s.queue[3] = m :: ms → exec .frameBoundary s =
          .next (event 3 m ms s.arbiter.turn)) ∧
        (s.queue[3] = [] →
          (s.notes.order = [] → s.queue.messages = [] → exec .frameBoundary s =
            .next { u with tx := none }) ∧
          (∀ k ks x, s.notes.order = k :: ks → s.notes.slots[k.val] = .waiting x →
            (s.queue.messages = [] → exec .frameBoundary s = .next (noted k x s.arbiter.turn)) ∧
            (s.queue.messages ≠ [] → s.arbiter.turn = .note → exec .frameBoundary s =
              .next (noted k x .event))) ∧
          (∀ (c : Fin 4) m ms, s.queue[c.val] = m :: ms → (∀ d : Fin 4, c < d → s.queue[d.val] = []) →
            (s.notes.order = [] → exec .frameBoundary s = .next (event c m ms s.arbiter.turn)) ∧
            (s.notes.order ≠ [] → s.arbiter.turn = .event → exec .frameBoundary s =
              .next (event c m ms .note))))))

/-! ### Holdoff (section 3.8) -/

/-- Expiry of a holdoff timer: a LEVEL source becomes IDLE and is re-evaluated; an EDGE source delivers its
PENDING edges as one message, or becomes IDLE; with the timer stopped the command has no effect, which is
the MODEL's choice (assumption log 3). -/
def Obligations.HoldoffExpiryReraisesTheSource : Prop :=
  ∀ (s : State) (n : SourceId), s.resetting = none →
    ((s.src n).holdoff = none → exec (.holdoffExpiry n) s = .next s) ∧
    ((s.src n).holdoff ≠ none →
      ((s.src n).sense.isLevel = true → exec (.holdoffExpiry n) s = .next
        (State.checked { s with
          sources := s.sources.set n.val { s.src n with state := .idle, holdoff := none } n.isLt }
          n false)) ∧
      ((s.src n).sense.isLevel = false →
        let quiet : State := { s with
          sources := s.sources.set n.val
            { s.src n with state := .idle, holdoff := none, pending := 0, pendOvr := false } n.isLt }
        exec (.holdoffExpiry n) s = .next
          (if (s.src n).pending ≠ 0 ∧ (s.src n).mask = false then
            quiet.placed (s.edgeMessage n (s.src n).pending (s.src n).pendOvr false)
          else quiet)))

/-! ### Laws that every step keeps -/

/-- The state after reset satisfies every law of the device (its pins are the MODEL's choice: assumption
log 5). -/
def Obligations.LawsHoldAfterReset : Prop := State.reset.Inv

/-- LINK_CFG stays valid; the FIFO, the Reply Queue, notes and replies stay in their bounds; and a stability
interval runs exactly while the observed and accepted values differ. -/
def Obligations.EveryStepKeepsBoundsAndLines : Prop :=
  (∀ s t : State, s.CfgLaw → step s = .next t → t.CfgLaw) ∧
  (∀ s t : State, s.BoundsLaw → step s = .next t → t.BoundsLaw) ∧
  (∀ s t : State, s.LineLaw → step s = .next t → t.LineLaw)

/-- The link state governs its timers, counts and agreed window, the item in transmission and frame
assembly. -/
def Obligations.EveryStepKeepsTheLinkState : Prop :=
  ∀ s t : State, s.CfgLaw → s.SessionLaw → s.TxLaw → s.AssemblyLaw → step s = .next t →
    t.SessionLaw ∧ t.TxLaw ∧ t.AssemblyLaw

/-- The Window's numbers stay consecutive and within the agreed window, the resend point names a record,
and outside ACTIVE nothing of a session is left. -/
def Obligations.EveryStepKeepsTheWindow : Prop :=
  ∀ s t : State, s.CfgLaw → s.SessionLaw → s.WindowLaw → step s = .next t → t.WindowLaw

/-- Every law of the device together: sources and messages, Window and Delivered List, slots and waiting
order, timers, link state and reset. -/
def Obligations.EveryStepKeepsTheLawsOfTheDevice : Prop :=
  ∀ s t : State, s.Inv → step s = .next t → t.Inv

end Statements
end

