-- ==== Sys2Proof/Laws/State.lean ====
section
/-! SUPPORT. What each named update of the state sets and leaves alone: one lemma per update and field, and
what the views `src`, `line` and `softLevel` read after each. -/

namespace Sys2Proof.Machine.State

/-! ### setPending -/

@[simp] theorem setPending_pending (s : State) (v : List Instr) : (s.setPending v).pending = v := rfl
@[simp] theorem setPending_now (s : State) (v : List Instr) : (s.setPending v).now = s.now := rfl
@[simp] theorem setPending_freeCount (s : State) (v : List Instr) :
    (s.setPending v).freeCount = s.freeCount := rfl
@[simp] theorem setPending_resetting (s : State) (v : List Instr) :
    (s.setPending v).resetting = s.resetting := rfl
@[simp] theorem setPending_bus (s : State) (v : List Instr) : (s.setPending v).bus = s.bus := rfl
@[simp] theorem setPending_lines (s : State) (v : List Instr) : (s.setPending v).lines = s.lines := rfl
@[simp] theorem setPending_softLevels (s : State) (v : List Instr) :
    (s.setPending v).softLevels = s.softLevels := rfl
@[simp] theorem setPending_sources (s : State) (v : List Instr) :
    (s.setPending v).sources = s.sources := rfl
@[simp] theorem setPending_queue (s : State) (v : List Instr) : (s.setPending v).queue = s.queue := rfl
@[simp] theorem setPending_delivered (s : State) (v : List Instr) :
    (s.setPending v).delivered = s.delivered := rfl
@[simp] theorem setPending_arbiter (s : State) (v : List Instr) :
    (s.setPending v).arbiter = s.arbiter := rfl
@[simp] theorem setPending_tx (s : State) (v : List Instr) : (s.setPending v).tx = s.tx := rfl
@[simp] theorem setPending_window (s : State) (v : List Instr) : (s.setPending v).window = s.window := rfl
@[simp] theorem setPending_receiver (s : State) (v : List Instr) :
    (s.setPending v).receiver = s.receiver := rfl
@[simp] theorem setPending_session (s : State) (v : List Instr) :
    (s.setPending v).session = s.session := rfl
@[simp] theorem setPending_notes (s : State) (v : List Instr) : (s.setPending v).notes = s.notes := rfl
@[simp] theorem setPending_replies (s : State) (v : List Instr) :
    (s.setPending v).replies = s.replies := rfl
@[simp] theorem setPending_regs (s : State) (v : List Instr) : (s.setPending v).regs = s.regs := rfl
@[simp] theorem setPending_src (s : State) (v : List Instr) (m : SourceId) :
    (s.setPending v).src m = s.src m := rfl
@[simp] theorem setPending_line (s : State) (v : List Instr) (m : LineId) :
    (s.setPending v).line m = s.line m := rfl
@[simp] theorem setPending_softLevel (s : State) (v : List Instr) (m : SoftId) :
    (s.setPending v).softLevel m = s.softLevel m := rfl

/-! ### setNow -/

@[simp] theorem setNow_pending (s : State) (v : Nat) : (s.setNow v).pending = s.pending := rfl
@[simp] theorem setNow_now (s : State) (v : Nat) : (s.setNow v).now = v := rfl
@[simp] theorem setNow_freeCount (s : State) (v : Nat) : (s.setNow v).freeCount = s.freeCount := rfl
@[simp] theorem setNow_resetting (s : State) (v : Nat) : (s.setNow v).resetting = s.resetting := rfl
@[simp] theorem setNow_bus (s : State) (v : Nat) : (s.setNow v).bus = s.bus := rfl
@[simp] theorem setNow_lines (s : State) (v : Nat) : (s.setNow v).lines = s.lines := rfl
@[simp] theorem setNow_softLevels (s : State) (v : Nat) : (s.setNow v).softLevels = s.softLevels := rfl
@[simp] theorem setNow_sources (s : State) (v : Nat) : (s.setNow v).sources = s.sources := rfl
@[simp] theorem setNow_queue (s : State) (v : Nat) : (s.setNow v).queue = s.queue := rfl
@[simp] theorem setNow_delivered (s : State) (v : Nat) : (s.setNow v).delivered = s.delivered := rfl
@[simp] theorem setNow_arbiter (s : State) (v : Nat) : (s.setNow v).arbiter = s.arbiter := rfl
@[simp] theorem setNow_tx (s : State) (v : Nat) : (s.setNow v).tx = s.tx := rfl
@[simp] theorem setNow_window (s : State) (v : Nat) : (s.setNow v).window = s.window := rfl
@[simp] theorem setNow_receiver (s : State) (v : Nat) : (s.setNow v).receiver = s.receiver := rfl
@[simp] theorem setNow_session (s : State) (v : Nat) : (s.setNow v).session = s.session := rfl
@[simp] theorem setNow_notes (s : State) (v : Nat) : (s.setNow v).notes = s.notes := rfl
@[simp] theorem setNow_replies (s : State) (v : Nat) : (s.setNow v).replies = s.replies := rfl
@[simp] theorem setNow_regs (s : State) (v : Nat) : (s.setNow v).regs = s.regs := rfl
@[simp] theorem setNow_src (s : State) (v : Nat) (m : SourceId) :
    (s.setNow v).src m = s.src m := rfl
@[simp] theorem setNow_line (s : State) (v : Nat) (m : LineId) :
    (s.setNow v).line m = s.line m := rfl
@[simp] theorem setNow_softLevel (s : State) (v : Nat) (m : SoftId) :
    (s.setNow v).softLevel m = s.softLevel m := rfl

/-! ### setFreeCount -/

@[simp] theorem setFreeCount_pending (s : State) (v : Nat) : (s.setFreeCount v).pending = s.pending := rfl
@[simp] theorem setFreeCount_now (s : State) (v : Nat) : (s.setFreeCount v).now = s.now := rfl
@[simp] theorem setFreeCount_freeCount (s : State) (v : Nat) : (s.setFreeCount v).freeCount = v := rfl
@[simp] theorem setFreeCount_resetting (s : State) (v : Nat) :
    (s.setFreeCount v).resetting = s.resetting := rfl
@[simp] theorem setFreeCount_bus (s : State) (v : Nat) : (s.setFreeCount v).bus = s.bus := rfl
@[simp] theorem setFreeCount_lines (s : State) (v : Nat) : (s.setFreeCount v).lines = s.lines := rfl
@[simp] theorem setFreeCount_softLevels (s : State) (v : Nat) :
    (s.setFreeCount v).softLevels = s.softLevels := rfl
@[simp] theorem setFreeCount_sources (s : State) (v : Nat) : (s.setFreeCount v).sources = s.sources := rfl
@[simp] theorem setFreeCount_queue (s : State) (v : Nat) : (s.setFreeCount v).queue = s.queue := rfl
@[simp] theorem setFreeCount_delivered (s : State) (v : Nat) :
    (s.setFreeCount v).delivered = s.delivered := rfl
@[simp] theorem setFreeCount_arbiter (s : State) (v : Nat) : (s.setFreeCount v).arbiter = s.arbiter := rfl
@[simp] theorem setFreeCount_tx (s : State) (v : Nat) : (s.setFreeCount v).tx = s.tx := rfl
@[simp] theorem setFreeCount_window (s : State) (v : Nat) : (s.setFreeCount v).window = s.window := rfl
@[simp] theorem setFreeCount_receiver (s : State) (v : Nat) :
    (s.setFreeCount v).receiver = s.receiver := rfl
@[simp] theorem setFreeCount_session (s : State) (v : Nat) : (s.setFreeCount v).session = s.session := rfl
@[simp] theorem setFreeCount_notes (s : State) (v : Nat) : (s.setFreeCount v).notes = s.notes := rfl
@[simp] theorem setFreeCount_replies (s : State) (v : Nat) : (s.setFreeCount v).replies = s.replies := rfl
@[simp] theorem setFreeCount_regs (s : State) (v : Nat) : (s.setFreeCount v).regs = s.regs := rfl
@[simp] theorem setFreeCount_src (s : State) (v : Nat) (m : SourceId) :
    (s.setFreeCount v).src m = s.src m := rfl
@[simp] theorem setFreeCount_line (s : State) (v : Nat) (m : LineId) :
    (s.setFreeCount v).line m = s.line m := rfl
@[simp] theorem setFreeCount_softLevel (s : State) (v : Nat) (m : SoftId) :
    (s.setFreeCount v).softLevel m = s.softLevel m := rfl

/-! ### setResetting -/

@[simp] theorem setResetting_pending (s : State) (v : Option ResetCause) :
    (s.setResetting v).pending = s.pending := rfl
@[simp] theorem setResetting_now (s : State) (v : Option ResetCause) : (s.setResetting v).now = s.now := rfl
@[simp] theorem setResetting_freeCount (s : State) (v : Option ResetCause) :
    (s.setResetting v).freeCount = s.freeCount := rfl
@[simp] theorem setResetting_resetting (s : State) (v : Option ResetCause) :
    (s.setResetting v).resetting = v := rfl
@[simp] theorem setResetting_bus (s : State) (v : Option ResetCause) : (s.setResetting v).bus = s.bus := rfl
@[simp] theorem setResetting_lines (s : State) (v : Option ResetCause) :
    (s.setResetting v).lines = s.lines := rfl
@[simp] theorem setResetting_softLevels (s : State) (v : Option ResetCause) :
    (s.setResetting v).softLevels = s.softLevels := rfl
@[simp] theorem setResetting_sources (s : State) (v : Option ResetCause) :
    (s.setResetting v).sources = s.sources := rfl
@[simp] theorem setResetting_queue (s : State) (v : Option ResetCause) :
    (s.setResetting v).queue = s.queue := rfl
@[simp] theorem setResetting_delivered (s : State) (v : Option ResetCause) :
    (s.setResetting v).delivered = s.delivered := rfl
@[simp] theorem setResetting_arbiter (s : State) (v : Option ResetCause) :
    (s.setResetting v).arbiter = s.arbiter := rfl
@[simp] theorem setResetting_tx (s : State) (v : Option ResetCause) : (s.setResetting v).tx = s.tx := rfl
@[simp] theorem setResetting_window (s : State) (v : Option ResetCause) :
    (s.setResetting v).window = s.window := rfl
@[simp] theorem setResetting_receiver (s : State) (v : Option ResetCause) :
    (s.setResetting v).receiver = s.receiver := rfl
@[simp] theorem setResetting_session (s : State) (v : Option ResetCause) :
    (s.setResetting v).session = s.session := rfl
@[simp] theorem setResetting_notes (s : State) (v : Option ResetCause) :
    (s.setResetting v).notes = s.notes := rfl
@[simp] theorem setResetting_replies (s : State) (v : Option ResetCause) :
    (s.setResetting v).replies = s.replies := rfl
@[simp] theorem setResetting_regs (s : State) (v : Option ResetCause) :
    (s.setResetting v).regs = s.regs := rfl
@[simp] theorem setResetting_src (s : State) (v : Option ResetCause) (m : SourceId) :
    (s.setResetting v).src m = s.src m := rfl
@[simp] theorem setResetting_line (s : State) (v : Option ResetCause) (m : LineId) :
    (s.setResetting v).line m = s.line m := rfl
@[simp] theorem setResetting_softLevel (s : State) (v : Option ResetCause) (m : SoftId) :
    (s.setResetting v).softLevel m = s.softLevel m := rfl

/-! ### setBus -/

@[simp] theorem setBus_pending (s : State) (v : Bus) : (s.setBus v).pending = s.pending := rfl
@[simp] theorem setBus_now (s : State) (v : Bus) : (s.setBus v).now = s.now := rfl
@[simp] theorem setBus_freeCount (s : State) (v : Bus) : (s.setBus v).freeCount = s.freeCount := rfl
@[simp] theorem setBus_resetting (s : State) (v : Bus) : (s.setBus v).resetting = s.resetting := rfl
@[simp] theorem setBus_bus (s : State) (v : Bus) : (s.setBus v).bus = v := rfl
@[simp] theorem setBus_lines (s : State) (v : Bus) : (s.setBus v).lines = s.lines := rfl
@[simp] theorem setBus_softLevels (s : State) (v : Bus) : (s.setBus v).softLevels = s.softLevels := rfl
@[simp] theorem setBus_sources (s : State) (v : Bus) : (s.setBus v).sources = s.sources := rfl
@[simp] theorem setBus_queue (s : State) (v : Bus) : (s.setBus v).queue = s.queue := rfl
@[simp] theorem setBus_delivered (s : State) (v : Bus) : (s.setBus v).delivered = s.delivered := rfl
@[simp] theorem setBus_arbiter (s : State) (v : Bus) : (s.setBus v).arbiter = s.arbiter := rfl
@[simp] theorem setBus_tx (s : State) (v : Bus) : (s.setBus v).tx = s.tx := rfl
@[simp] theorem setBus_window (s : State) (v : Bus) : (s.setBus v).window = s.window := rfl
@[simp] theorem setBus_receiver (s : State) (v : Bus) : (s.setBus v).receiver = s.receiver := rfl
@[simp] theorem setBus_session (s : State) (v : Bus) : (s.setBus v).session = s.session := rfl
@[simp] theorem setBus_notes (s : State) (v : Bus) : (s.setBus v).notes = s.notes := rfl
@[simp] theorem setBus_replies (s : State) (v : Bus) : (s.setBus v).replies = s.replies := rfl
@[simp] theorem setBus_regs (s : State) (v : Bus) : (s.setBus v).regs = s.regs := rfl
@[simp] theorem setBus_src (s : State) (v : Bus) (m : SourceId) :
    (s.setBus v).src m = s.src m := rfl
@[simp] theorem setBus_line (s : State) (v : Bus) (m : LineId) :
    (s.setBus v).line m = s.line m := rfl
@[simp] theorem setBus_softLevel (s : State) (v : Bus) (m : SoftId) :
    (s.setBus v).softLevel m = s.softLevel m := rfl

/-! ### setLine -/

@[simp] theorem setLine_pending (s : State) (n : LineId) (v : Line) :
    (s.setLine n v).pending = s.pending := rfl
@[simp] theorem setLine_now (s : State) (n : LineId) (v : Line) : (s.setLine n v).now = s.now := rfl
@[simp] theorem setLine_freeCount (s : State) (n : LineId) (v : Line) :
    (s.setLine n v).freeCount = s.freeCount := rfl
@[simp] theorem setLine_resetting (s : State) (n : LineId) (v : Line) :
    (s.setLine n v).resetting = s.resetting := rfl
@[simp] theorem setLine_bus (s : State) (n : LineId) (v : Line) : (s.setLine n v).bus = s.bus := rfl
@[simp] theorem setLine_lines (s : State) (n : LineId) (v : Line) :
    (s.setLine n v).lines = s.lines.set n.val v n.isLt := rfl
@[simp] theorem setLine_softLevels (s : State) (n : LineId) (v : Line) :
    (s.setLine n v).softLevels = s.softLevels := rfl
@[simp] theorem setLine_sources (s : State) (n : LineId) (v : Line) :
    (s.setLine n v).sources = s.sources := rfl
@[simp] theorem setLine_queue (s : State) (n : LineId) (v : Line) : (s.setLine n v).queue = s.queue := rfl
@[simp] theorem setLine_delivered (s : State) (n : LineId) (v : Line) :
    (s.setLine n v).delivered = s.delivered := rfl
@[simp] theorem setLine_arbiter (s : State) (n : LineId) (v : Line) :
    (s.setLine n v).arbiter = s.arbiter := rfl
@[simp] theorem setLine_tx (s : State) (n : LineId) (v : Line) : (s.setLine n v).tx = s.tx := rfl
@[simp] theorem setLine_window (s : State) (n : LineId) (v : Line) :
    (s.setLine n v).window = s.window := rfl
@[simp] theorem setLine_receiver (s : State) (n : LineId) (v : Line) :
    (s.setLine n v).receiver = s.receiver := rfl
@[simp] theorem setLine_session (s : State) (n : LineId) (v : Line) :
    (s.setLine n v).session = s.session := rfl
@[simp] theorem setLine_notes (s : State) (n : LineId) (v : Line) : (s.setLine n v).notes = s.notes := rfl
@[simp] theorem setLine_replies (s : State) (n : LineId) (v : Line) :
    (s.setLine n v).replies = s.replies := rfl
@[simp] theorem setLine_regs (s : State) (n : LineId) (v : Line) : (s.setLine n v).regs = s.regs := rfl
@[simp] theorem setLine_src (s : State) (n : LineId) (v : Line) (m : SourceId) :
    (s.setLine n v).src m = s.src m := rfl
@[simp] theorem setLine_softLevel (s : State) (n : LineId) (v : Line) (m : SoftId) :
    (s.setLine n v).softLevel m = s.softLevel m := rfl

/-! ### setLines -/

@[simp] theorem setLines_pending (s : State) (v : Vector Line 32) :
    (s.setLines v).pending = s.pending := rfl
@[simp] theorem setLines_now (s : State) (v : Vector Line 32) : (s.setLines v).now = s.now := rfl
@[simp] theorem setLines_freeCount (s : State) (v : Vector Line 32) :
    (s.setLines v).freeCount = s.freeCount := rfl
@[simp] theorem setLines_resetting (s : State) (v : Vector Line 32) :
    (s.setLines v).resetting = s.resetting := rfl
@[simp] theorem setLines_bus (s : State) (v : Vector Line 32) : (s.setLines v).bus = s.bus := rfl
@[simp] theorem setLines_lines (s : State) (v : Vector Line 32) : (s.setLines v).lines = v := rfl
@[simp] theorem setLines_softLevels (s : State) (v : Vector Line 32) :
    (s.setLines v).softLevels = s.softLevels := rfl
@[simp] theorem setLines_sources (s : State) (v : Vector Line 32) :
    (s.setLines v).sources = s.sources := rfl
@[simp] theorem setLines_queue (s : State) (v : Vector Line 32) : (s.setLines v).queue = s.queue := rfl
@[simp] theorem setLines_delivered (s : State) (v : Vector Line 32) :
    (s.setLines v).delivered = s.delivered := rfl
@[simp] theorem setLines_arbiter (s : State) (v : Vector Line 32) :
    (s.setLines v).arbiter = s.arbiter := rfl
@[simp] theorem setLines_tx (s : State) (v : Vector Line 32) : (s.setLines v).tx = s.tx := rfl
@[simp] theorem setLines_window (s : State) (v : Vector Line 32) : (s.setLines v).window = s.window := rfl
@[simp] theorem setLines_receiver (s : State) (v : Vector Line 32) :
    (s.setLines v).receiver = s.receiver := rfl
@[simp] theorem setLines_session (s : State) (v : Vector Line 32) :
    (s.setLines v).session = s.session := rfl
@[simp] theorem setLines_notes (s : State) (v : Vector Line 32) : (s.setLines v).notes = s.notes := rfl
@[simp] theorem setLines_replies (s : State) (v : Vector Line 32) :
    (s.setLines v).replies = s.replies := rfl
@[simp] theorem setLines_regs (s : State) (v : Vector Line 32) : (s.setLines v).regs = s.regs := rfl
@[simp] theorem setLines_src (s : State) (v : Vector Line 32) (m : SourceId) :
    (s.setLines v).src m = s.src m := rfl
@[simp] theorem setLines_softLevel (s : State) (v : Vector Line 32) (m : SoftId) :
    (s.setLines v).softLevel m = s.softLevel m := rfl

/-! ### setSoftLevel -/

@[simp] theorem setSoftLevel_pending (s : State) (n : SoftId) (v : Bool) :
    (s.setSoftLevel n v).pending = s.pending := rfl
@[simp] theorem setSoftLevel_now (s : State) (n : SoftId) (v : Bool) :
    (s.setSoftLevel n v).now = s.now := rfl
@[simp] theorem setSoftLevel_freeCount (s : State) (n : SoftId) (v : Bool) :
    (s.setSoftLevel n v).freeCount = s.freeCount := rfl
@[simp] theorem setSoftLevel_resetting (s : State) (n : SoftId) (v : Bool) :
    (s.setSoftLevel n v).resetting = s.resetting := rfl
@[simp] theorem setSoftLevel_bus (s : State) (n : SoftId) (v : Bool) :
    (s.setSoftLevel n v).bus = s.bus := rfl
@[simp] theorem setSoftLevel_lines (s : State) (n : SoftId) (v : Bool) :
    (s.setSoftLevel n v).lines = s.lines := rfl
@[simp] theorem setSoftLevel_softLevels (s : State) (n : SoftId) (v : Bool) :
    (s.setSoftLevel n v).softLevels = s.softLevels.set n.val v n.isLt := rfl
@[simp] theorem setSoftLevel_sources (s : State) (n : SoftId) (v : Bool) :
    (s.setSoftLevel n v).sources = s.sources := rfl
@[simp] theorem setSoftLevel_queue (s : State) (n : SoftId) (v : Bool) :
    (s.setSoftLevel n v).queue = s.queue := rfl
@[simp] theorem setSoftLevel_delivered (s : State) (n : SoftId) (v : Bool) :
    (s.setSoftLevel n v).delivered = s.delivered := rfl
@[simp] theorem setSoftLevel_arbiter (s : State) (n : SoftId) (v : Bool) :
    (s.setSoftLevel n v).arbiter = s.arbiter := rfl
@[simp] theorem setSoftLevel_tx (s : State) (n : SoftId) (v : Bool) : (s.setSoftLevel n v).tx = s.tx := rfl
@[simp] theorem setSoftLevel_window (s : State) (n : SoftId) (v : Bool) :
    (s.setSoftLevel n v).window = s.window := rfl
@[simp] theorem setSoftLevel_receiver (s : State) (n : SoftId) (v : Bool) :
    (s.setSoftLevel n v).receiver = s.receiver := rfl
@[simp] theorem setSoftLevel_session (s : State) (n : SoftId) (v : Bool) :
    (s.setSoftLevel n v).session = s.session := rfl
@[simp] theorem setSoftLevel_notes (s : State) (n : SoftId) (v : Bool) :
    (s.setSoftLevel n v).notes = s.notes := rfl
@[simp] theorem setSoftLevel_replies (s : State) (n : SoftId) (v : Bool) :
    (s.setSoftLevel n v).replies = s.replies := rfl
@[simp] theorem setSoftLevel_regs (s : State) (n : SoftId) (v : Bool) :
    (s.setSoftLevel n v).regs = s.regs := rfl
@[simp] theorem setSoftLevel_src (s : State) (n : SoftId) (v : Bool) (m : SourceId) :
    (s.setSoftLevel n v).src m = s.src m := rfl
@[simp] theorem setSoftLevel_line (s : State) (n : SoftId) (v : Bool) (m : LineId) :
    (s.setSoftLevel n v).line m = s.line m := rfl

/-! ### setSrc -/

@[simp] theorem setSrc_pending (s : State) (n : SourceId) (v : Source) :
    (s.setSrc n v).pending = s.pending := rfl
@[simp] theorem setSrc_now (s : State) (n : SourceId) (v : Source) : (s.setSrc n v).now = s.now := rfl
@[simp] theorem setSrc_freeCount (s : State) (n : SourceId) (v : Source) :
    (s.setSrc n v).freeCount = s.freeCount := rfl
@[simp] theorem setSrc_resetting (s : State) (n : SourceId) (v : Source) :
    (s.setSrc n v).resetting = s.resetting := rfl
@[simp] theorem setSrc_bus (s : State) (n : SourceId) (v : Source) : (s.setSrc n v).bus = s.bus := rfl
@[simp] theorem setSrc_lines (s : State) (n : SourceId) (v : Source) : (s.setSrc n v).lines = s.lines := rfl
@[simp] theorem setSrc_softLevels (s : State) (n : SourceId) (v : Source) :
    (s.setSrc n v).softLevels = s.softLevels := rfl
@[simp] theorem setSrc_sources (s : State) (n : SourceId) (v : Source) :
    (s.setSrc n v).sources = s.sources.set n.val v n.isLt := rfl
@[simp] theorem setSrc_queue (s : State) (n : SourceId) (v : Source) : (s.setSrc n v).queue = s.queue := rfl
@[simp] theorem setSrc_delivered (s : State) (n : SourceId) (v : Source) :
    (s.setSrc n v).delivered = s.delivered := rfl
@[simp] theorem setSrc_arbiter (s : State) (n : SourceId) (v : Source) :
    (s.setSrc n v).arbiter = s.arbiter := rfl
@[simp] theorem setSrc_tx (s : State) (n : SourceId) (v : Source) : (s.setSrc n v).tx = s.tx := rfl
@[simp] theorem setSrc_window (s : State) (n : SourceId) (v : Source) :
    (s.setSrc n v).window = s.window := rfl
@[simp] theorem setSrc_receiver (s : State) (n : SourceId) (v : Source) :
    (s.setSrc n v).receiver = s.receiver := rfl
@[simp] theorem setSrc_session (s : State) (n : SourceId) (v : Source) :
    (s.setSrc n v).session = s.session := rfl
@[simp] theorem setSrc_notes (s : State) (n : SourceId) (v : Source) : (s.setSrc n v).notes = s.notes := rfl
@[simp] theorem setSrc_replies (s : State) (n : SourceId) (v : Source) :
    (s.setSrc n v).replies = s.replies := rfl
@[simp] theorem setSrc_regs (s : State) (n : SourceId) (v : Source) : (s.setSrc n v).regs = s.regs := rfl
@[simp] theorem setSrc_line (s : State) (n : SourceId) (v : Source) (m : LineId) :
    (s.setSrc n v).line m = s.line m := rfl
@[simp] theorem setSrc_softLevel (s : State) (n : SourceId) (v : Source) (m : SoftId) :
    (s.setSrc n v).softLevel m = s.softLevel m := rfl

/-! ### setSources -/

@[simp] theorem setSources_pending (s : State) (v : Vector Source 40) :
    (s.setSources v).pending = s.pending := rfl
@[simp] theorem setSources_now (s : State) (v : Vector Source 40) : (s.setSources v).now = s.now := rfl
@[simp] theorem setSources_freeCount (s : State) (v : Vector Source 40) :
    (s.setSources v).freeCount = s.freeCount := rfl
@[simp] theorem setSources_resetting (s : State) (v : Vector Source 40) :
    (s.setSources v).resetting = s.resetting := rfl
@[simp] theorem setSources_bus (s : State) (v : Vector Source 40) : (s.setSources v).bus = s.bus := rfl
@[simp] theorem setSources_lines (s : State) (v : Vector Source 40) :
    (s.setSources v).lines = s.lines := rfl
@[simp] theorem setSources_softLevels (s : State) (v : Vector Source 40) :
    (s.setSources v).softLevels = s.softLevels := rfl
@[simp] theorem setSources_sources (s : State) (v : Vector Source 40) : (s.setSources v).sources = v := rfl
@[simp] theorem setSources_queue (s : State) (v : Vector Source 40) :
    (s.setSources v).queue = s.queue := rfl
@[simp] theorem setSources_delivered (s : State) (v : Vector Source 40) :
    (s.setSources v).delivered = s.delivered := rfl
@[simp] theorem setSources_arbiter (s : State) (v : Vector Source 40) :
    (s.setSources v).arbiter = s.arbiter := rfl
@[simp] theorem setSources_tx (s : State) (v : Vector Source 40) : (s.setSources v).tx = s.tx := rfl
@[simp] theorem setSources_window (s : State) (v : Vector Source 40) :
    (s.setSources v).window = s.window := rfl
@[simp] theorem setSources_receiver (s : State) (v : Vector Source 40) :
    (s.setSources v).receiver = s.receiver := rfl
@[simp] theorem setSources_session (s : State) (v : Vector Source 40) :
    (s.setSources v).session = s.session := rfl
@[simp] theorem setSources_notes (s : State) (v : Vector Source 40) :
    (s.setSources v).notes = s.notes := rfl
@[simp] theorem setSources_replies (s : State) (v : Vector Source 40) :
    (s.setSources v).replies = s.replies := rfl
@[simp] theorem setSources_regs (s : State) (v : Vector Source 40) : (s.setSources v).regs = s.regs := rfl
@[simp] theorem setSources_line (s : State) (v : Vector Source 40) (m : LineId) :
    (s.setSources v).line m = s.line m := rfl
@[simp] theorem setSources_softLevel (s : State) (v : Vector Source 40) (m : SoftId) :
    (s.setSources v).softLevel m = s.softLevel m := rfl

/-! ### setQueue -/

@[simp] theorem setQueue_pending (s : State) (v : EventQueue) : (s.setQueue v).pending = s.pending := rfl
@[simp] theorem setQueue_now (s : State) (v : EventQueue) : (s.setQueue v).now = s.now := rfl
@[simp] theorem setQueue_freeCount (s : State) (v : EventQueue) :
    (s.setQueue v).freeCount = s.freeCount := rfl
@[simp] theorem setQueue_resetting (s : State) (v : EventQueue) :
    (s.setQueue v).resetting = s.resetting := rfl
@[simp] theorem setQueue_bus (s : State) (v : EventQueue) : (s.setQueue v).bus = s.bus := rfl
@[simp] theorem setQueue_lines (s : State) (v : EventQueue) : (s.setQueue v).lines = s.lines := rfl
@[simp] theorem setQueue_softLevels (s : State) (v : EventQueue) :
    (s.setQueue v).softLevels = s.softLevels := rfl
@[simp] theorem setQueue_sources (s : State) (v : EventQueue) : (s.setQueue v).sources = s.sources := rfl
@[simp] theorem setQueue_queue (s : State) (v : EventQueue) : (s.setQueue v).queue = v := rfl
@[simp] theorem setQueue_delivered (s : State) (v : EventQueue) :
    (s.setQueue v).delivered = s.delivered := rfl
@[simp] theorem setQueue_arbiter (s : State) (v : EventQueue) : (s.setQueue v).arbiter = s.arbiter := rfl
@[simp] theorem setQueue_tx (s : State) (v : EventQueue) : (s.setQueue v).tx = s.tx := rfl
@[simp] theorem setQueue_window (s : State) (v : EventQueue) : (s.setQueue v).window = s.window := rfl
@[simp] theorem setQueue_receiver (s : State) (v : EventQueue) : (s.setQueue v).receiver = s.receiver := rfl
@[simp] theorem setQueue_session (s : State) (v : EventQueue) : (s.setQueue v).session = s.session := rfl
@[simp] theorem setQueue_notes (s : State) (v : EventQueue) : (s.setQueue v).notes = s.notes := rfl
@[simp] theorem setQueue_replies (s : State) (v : EventQueue) : (s.setQueue v).replies = s.replies := rfl
@[simp] theorem setQueue_regs (s : State) (v : EventQueue) : (s.setQueue v).regs = s.regs := rfl
@[simp] theorem setQueue_src (s : State) (v : EventQueue) (m : SourceId) :
    (s.setQueue v).src m = s.src m := rfl
@[simp] theorem setQueue_line (s : State) (v : EventQueue) (m : LineId) :
    (s.setQueue v).line m = s.line m := rfl
@[simp] theorem setQueue_softLevel (s : State) (v : EventQueue) (m : SoftId) :
    (s.setQueue v).softLevel m = s.softLevel m := rfl

/-! ### setDelivered -/

@[simp] theorem setDelivered_pending (s : State) (v : List SourceId) :
    (s.setDelivered v).pending = s.pending := rfl
@[simp] theorem setDelivered_now (s : State) (v : List SourceId) : (s.setDelivered v).now = s.now := rfl
@[simp] theorem setDelivered_freeCount (s : State) (v : List SourceId) :
    (s.setDelivered v).freeCount = s.freeCount := rfl
@[simp] theorem setDelivered_resetting (s : State) (v : List SourceId) :
    (s.setDelivered v).resetting = s.resetting := rfl
@[simp] theorem setDelivered_bus (s : State) (v : List SourceId) : (s.setDelivered v).bus = s.bus := rfl
@[simp] theorem setDelivered_lines (s : State) (v : List SourceId) :
    (s.setDelivered v).lines = s.lines := rfl
@[simp] theorem setDelivered_softLevels (s : State) (v : List SourceId) :
    (s.setDelivered v).softLevels = s.softLevels := rfl
@[simp] theorem setDelivered_sources (s : State) (v : List SourceId) :
    (s.setDelivered v).sources = s.sources := rfl
@[simp] theorem setDelivered_queue (s : State) (v : List SourceId) :
    (s.setDelivered v).queue = s.queue := rfl
@[simp] theorem setDelivered_delivered (s : State) (v : List SourceId) :
    (s.setDelivered v).delivered = v := rfl
@[simp] theorem setDelivered_arbiter (s : State) (v : List SourceId) :
    (s.setDelivered v).arbiter = s.arbiter := rfl
@[simp] theorem setDelivered_tx (s : State) (v : List SourceId) : (s.setDelivered v).tx = s.tx := rfl
@[simp] theorem setDelivered_window (s : State) (v : List SourceId) :
    (s.setDelivered v).window = s.window := rfl
@[simp] theorem setDelivered_receiver (s : State) (v : List SourceId) :
    (s.setDelivered v).receiver = s.receiver := rfl
@[simp] theorem setDelivered_session (s : State) (v : List SourceId) :
    (s.setDelivered v).session = s.session := rfl
@[simp] theorem setDelivered_notes (s : State) (v : List SourceId) :
    (s.setDelivered v).notes = s.notes := rfl
@[simp] theorem setDelivered_replies (s : State) (v : List SourceId) :
    (s.setDelivered v).replies = s.replies := rfl
@[simp] theorem setDelivered_regs (s : State) (v : List SourceId) : (s.setDelivered v).regs = s.regs := rfl
@[simp] theorem setDelivered_src (s : State) (v : List SourceId) (m : SourceId) :
    (s.setDelivered v).src m = s.src m := rfl
@[simp] theorem setDelivered_line (s : State) (v : List SourceId) (m : LineId) :
    (s.setDelivered v).line m = s.line m := rfl
@[simp] theorem setDelivered_softLevel (s : State) (v : List SourceId) (m : SoftId) :
    (s.setDelivered v).softLevel m = s.softLevel m := rfl

/-! ### setArbiter -/

@[simp] theorem setArbiter_pending (s : State) (v : Arbiter) : (s.setArbiter v).pending = s.pending := rfl
@[simp] theorem setArbiter_now (s : State) (v : Arbiter) : (s.setArbiter v).now = s.now := rfl
@[simp] theorem setArbiter_freeCount (s : State) (v : Arbiter) :
    (s.setArbiter v).freeCount = s.freeCount := rfl
@[simp] theorem setArbiter_resetting (s : State) (v : Arbiter) :
    (s.setArbiter v).resetting = s.resetting := rfl
@[simp] theorem setArbiter_bus (s : State) (v : Arbiter) : (s.setArbiter v).bus = s.bus := rfl
@[simp] theorem setArbiter_lines (s : State) (v : Arbiter) : (s.setArbiter v).lines = s.lines := rfl
@[simp] theorem setArbiter_softLevels (s : State) (v : Arbiter) :
    (s.setArbiter v).softLevels = s.softLevels := rfl
@[simp] theorem setArbiter_sources (s : State) (v : Arbiter) : (s.setArbiter v).sources = s.sources := rfl
@[simp] theorem setArbiter_queue (s : State) (v : Arbiter) : (s.setArbiter v).queue = s.queue := rfl
@[simp] theorem setArbiter_delivered (s : State) (v : Arbiter) :
    (s.setArbiter v).delivered = s.delivered := rfl
@[simp] theorem setArbiter_arbiter (s : State) (v : Arbiter) : (s.setArbiter v).arbiter = v := rfl
@[simp] theorem setArbiter_tx (s : State) (v : Arbiter) : (s.setArbiter v).tx = s.tx := rfl
@[simp] theorem setArbiter_window (s : State) (v : Arbiter) : (s.setArbiter v).window = s.window := rfl
@[simp] theorem setArbiter_receiver (s : State) (v : Arbiter) :
    (s.setArbiter v).receiver = s.receiver := rfl
@[simp] theorem setArbiter_session (s : State) (v : Arbiter) : (s.setArbiter v).session = s.session := rfl
@[simp] theorem setArbiter_notes (s : State) (v : Arbiter) : (s.setArbiter v).notes = s.notes := rfl
@[simp] theorem setArbiter_replies (s : State) (v : Arbiter) : (s.setArbiter v).replies = s.replies := rfl
@[simp] theorem setArbiter_regs (s : State) (v : Arbiter) : (s.setArbiter v).regs = s.regs := rfl
@[simp] theorem setArbiter_src (s : State) (v : Arbiter) (m : SourceId) :
    (s.setArbiter v).src m = s.src m := rfl
@[simp] theorem setArbiter_line (s : State) (v : Arbiter) (m : LineId) :
    (s.setArbiter v).line m = s.line m := rfl
@[simp] theorem setArbiter_softLevel (s : State) (v : Arbiter) (m : SoftId) :
    (s.setArbiter v).softLevel m = s.softLevel m := rfl

/-! ### setTx -/

@[simp] theorem setTx_pending (s : State) (v : Option Item) : (s.setTx v).pending = s.pending := rfl
@[simp] theorem setTx_now (s : State) (v : Option Item) : (s.setTx v).now = s.now := rfl
@[simp] theorem setTx_freeCount (s : State) (v : Option Item) : (s.setTx v).freeCount = s.freeCount := rfl
@[simp] theorem setTx_resetting (s : State) (v : Option Item) : (s.setTx v).resetting = s.resetting := rfl
@[simp] theorem setTx_bus (s : State) (v : Option Item) : (s.setTx v).bus = s.bus := rfl
@[simp] theorem setTx_lines (s : State) (v : Option Item) : (s.setTx v).lines = s.lines := rfl
@[simp] theorem setTx_softLevels (s : State) (v : Option Item) :
    (s.setTx v).softLevels = s.softLevels := rfl
@[simp] theorem setTx_sources (s : State) (v : Option Item) : (s.setTx v).sources = s.sources := rfl
@[simp] theorem setTx_queue (s : State) (v : Option Item) : (s.setTx v).queue = s.queue := rfl
@[simp] theorem setTx_delivered (s : State) (v : Option Item) : (s.setTx v).delivered = s.delivered := rfl
@[simp] theorem setTx_arbiter (s : State) (v : Option Item) : (s.setTx v).arbiter = s.arbiter := rfl
@[simp] theorem setTx_tx (s : State) (v : Option Item) : (s.setTx v).tx = v := rfl
@[simp] theorem setTx_window (s : State) (v : Option Item) : (s.setTx v).window = s.window := rfl
@[simp] theorem setTx_receiver (s : State) (v : Option Item) : (s.setTx v).receiver = s.receiver := rfl
@[simp] theorem setTx_session (s : State) (v : Option Item) : (s.setTx v).session = s.session := rfl
@[simp] theorem setTx_notes (s : State) (v : Option Item) : (s.setTx v).notes = s.notes := rfl
@[simp] theorem setTx_replies (s : State) (v : Option Item) : (s.setTx v).replies = s.replies := rfl
@[simp] theorem setTx_regs (s : State) (v : Option Item) : (s.setTx v).regs = s.regs := rfl
@[simp] theorem setTx_src (s : State) (v : Option Item) (m : SourceId) :
    (s.setTx v).src m = s.src m := rfl
@[simp] theorem setTx_line (s : State) (v : Option Item) (m : LineId) :
    (s.setTx v).line m = s.line m := rfl
@[simp] theorem setTx_softLevel (s : State) (v : Option Item) (m : SoftId) :
    (s.setTx v).softLevel m = s.softLevel m := rfl

/-! ### setWindow -/

@[simp] theorem setWindow_pending (s : State) (v : Window) : (s.setWindow v).pending = s.pending := rfl
@[simp] theorem setWindow_now (s : State) (v : Window) : (s.setWindow v).now = s.now := rfl
@[simp] theorem setWindow_freeCount (s : State) (v : Window) :
    (s.setWindow v).freeCount = s.freeCount := rfl
@[simp] theorem setWindow_resetting (s : State) (v : Window) :
    (s.setWindow v).resetting = s.resetting := rfl
@[simp] theorem setWindow_bus (s : State) (v : Window) : (s.setWindow v).bus = s.bus := rfl
@[simp] theorem setWindow_lines (s : State) (v : Window) : (s.setWindow v).lines = s.lines := rfl
@[simp] theorem setWindow_softLevels (s : State) (v : Window) :
    (s.setWindow v).softLevels = s.softLevels := rfl
@[simp] theorem setWindow_sources (s : State) (v : Window) : (s.setWindow v).sources = s.sources := rfl
@[simp] theorem setWindow_queue (s : State) (v : Window) : (s.setWindow v).queue = s.queue := rfl
@[simp] theorem setWindow_delivered (s : State) (v : Window) :
    (s.setWindow v).delivered = s.delivered := rfl
@[simp] theorem setWindow_arbiter (s : State) (v : Window) : (s.setWindow v).arbiter = s.arbiter := rfl
@[simp] theorem setWindow_tx (s : State) (v : Window) : (s.setWindow v).tx = s.tx := rfl
@[simp] theorem setWindow_window (s : State) (v : Window) : (s.setWindow v).window = v := rfl
@[simp] theorem setWindow_receiver (s : State) (v : Window) : (s.setWindow v).receiver = s.receiver := rfl
@[simp] theorem setWindow_session (s : State) (v : Window) : (s.setWindow v).session = s.session := rfl
@[simp] theorem setWindow_notes (s : State) (v : Window) : (s.setWindow v).notes = s.notes := rfl
@[simp] theorem setWindow_replies (s : State) (v : Window) : (s.setWindow v).replies = s.replies := rfl
@[simp] theorem setWindow_regs (s : State) (v : Window) : (s.setWindow v).regs = s.regs := rfl
@[simp] theorem setWindow_src (s : State) (v : Window) (m : SourceId) :
    (s.setWindow v).src m = s.src m := rfl
@[simp] theorem setWindow_line (s : State) (v : Window) (m : LineId) :
    (s.setWindow v).line m = s.line m := rfl
@[simp] theorem setWindow_softLevel (s : State) (v : Window) (m : SoftId) :
    (s.setWindow v).softLevel m = s.softLevel m := rfl

/-! ### setReceiver -/

@[simp] theorem setReceiver_pending (s : State) (v : Receiver) :
    (s.setReceiver v).pending = s.pending := rfl
@[simp] theorem setReceiver_now (s : State) (v : Receiver) : (s.setReceiver v).now = s.now := rfl
@[simp] theorem setReceiver_freeCount (s : State) (v : Receiver) :
    (s.setReceiver v).freeCount = s.freeCount := rfl
@[simp] theorem setReceiver_resetting (s : State) (v : Receiver) :
    (s.setReceiver v).resetting = s.resetting := rfl
@[simp] theorem setReceiver_bus (s : State) (v : Receiver) : (s.setReceiver v).bus = s.bus := rfl
@[simp] theorem setReceiver_lines (s : State) (v : Receiver) : (s.setReceiver v).lines = s.lines := rfl
@[simp] theorem setReceiver_softLevels (s : State) (v : Receiver) :
    (s.setReceiver v).softLevels = s.softLevels := rfl
@[simp] theorem setReceiver_sources (s : State) (v : Receiver) :
    (s.setReceiver v).sources = s.sources := rfl
@[simp] theorem setReceiver_queue (s : State) (v : Receiver) : (s.setReceiver v).queue = s.queue := rfl
@[simp] theorem setReceiver_delivered (s : State) (v : Receiver) :
    (s.setReceiver v).delivered = s.delivered := rfl
@[simp] theorem setReceiver_arbiter (s : State) (v : Receiver) :
    (s.setReceiver v).arbiter = s.arbiter := rfl
@[simp] theorem setReceiver_tx (s : State) (v : Receiver) : (s.setReceiver v).tx = s.tx := rfl
@[simp] theorem setReceiver_window (s : State) (v : Receiver) : (s.setReceiver v).window = s.window := rfl
@[simp] theorem setReceiver_receiver (s : State) (v : Receiver) : (s.setReceiver v).receiver = v := rfl
@[simp] theorem setReceiver_session (s : State) (v : Receiver) :
    (s.setReceiver v).session = s.session := rfl
@[simp] theorem setReceiver_notes (s : State) (v : Receiver) : (s.setReceiver v).notes = s.notes := rfl
@[simp] theorem setReceiver_replies (s : State) (v : Receiver) :
    (s.setReceiver v).replies = s.replies := rfl
@[simp] theorem setReceiver_regs (s : State) (v : Receiver) : (s.setReceiver v).regs = s.regs := rfl
@[simp] theorem setReceiver_src (s : State) (v : Receiver) (m : SourceId) :
    (s.setReceiver v).src m = s.src m := rfl
@[simp] theorem setReceiver_line (s : State) (v : Receiver) (m : LineId) :
    (s.setReceiver v).line m = s.line m := rfl
@[simp] theorem setReceiver_softLevel (s : State) (v : Receiver) (m : SoftId) :
    (s.setReceiver v).softLevel m = s.softLevel m := rfl

/-! ### setSession -/

@[simp] theorem setSession_pending (s : State) (v : Session) : (s.setSession v).pending = s.pending := rfl
@[simp] theorem setSession_now (s : State) (v : Session) : (s.setSession v).now = s.now := rfl
@[simp] theorem setSession_freeCount (s : State) (v : Session) :
    (s.setSession v).freeCount = s.freeCount := rfl
@[simp] theorem setSession_resetting (s : State) (v : Session) :
    (s.setSession v).resetting = s.resetting := rfl
@[simp] theorem setSession_bus (s : State) (v : Session) : (s.setSession v).bus = s.bus := rfl
@[simp] theorem setSession_lines (s : State) (v : Session) : (s.setSession v).lines = s.lines := rfl
@[simp] theorem setSession_softLevels (s : State) (v : Session) :
    (s.setSession v).softLevels = s.softLevels := rfl
@[simp] theorem setSession_sources (s : State) (v : Session) : (s.setSession v).sources = s.sources := rfl
@[simp] theorem setSession_queue (s : State) (v : Session) : (s.setSession v).queue = s.queue := rfl
@[simp] theorem setSession_delivered (s : State) (v : Session) :
    (s.setSession v).delivered = s.delivered := rfl
@[simp] theorem setSession_arbiter (s : State) (v : Session) : (s.setSession v).arbiter = s.arbiter := rfl
@[simp] theorem setSession_tx (s : State) (v : Session) : (s.setSession v).tx = s.tx := rfl
@[simp] theorem setSession_window (s : State) (v : Session) : (s.setSession v).window = s.window := rfl
@[simp] theorem setSession_receiver (s : State) (v : Session) :
    (s.setSession v).receiver = s.receiver := rfl
@[simp] theorem setSession_session (s : State) (v : Session) : (s.setSession v).session = v := rfl
@[simp] theorem setSession_notes (s : State) (v : Session) : (s.setSession v).notes = s.notes := rfl
@[simp] theorem setSession_replies (s : State) (v : Session) : (s.setSession v).replies = s.replies := rfl
@[simp] theorem setSession_regs (s : State) (v : Session) : (s.setSession v).regs = s.regs := rfl
@[simp] theorem setSession_src (s : State) (v : Session) (m : SourceId) :
    (s.setSession v).src m = s.src m := rfl
@[simp] theorem setSession_line (s : State) (v : Session) (m : LineId) :
    (s.setSession v).line m = s.line m := rfl
@[simp] theorem setSession_softLevel (s : State) (v : Session) (m : SoftId) :
    (s.setSession v).softLevel m = s.softLevel m := rfl

/-! ### setNotes -/

@[simp] theorem setNotes_pending (s : State) (v : NoteUnit) : (s.setNotes v).pending = s.pending := rfl
@[simp] theorem setNotes_now (s : State) (v : NoteUnit) : (s.setNotes v).now = s.now := rfl
@[simp] theorem setNotes_freeCount (s : State) (v : NoteUnit) :
    (s.setNotes v).freeCount = s.freeCount := rfl
@[simp] theorem setNotes_resetting (s : State) (v : NoteUnit) :
    (s.setNotes v).resetting = s.resetting := rfl
@[simp] theorem setNotes_bus (s : State) (v : NoteUnit) : (s.setNotes v).bus = s.bus := rfl
@[simp] theorem setNotes_lines (s : State) (v : NoteUnit) : (s.setNotes v).lines = s.lines := rfl
@[simp] theorem setNotes_softLevels (s : State) (v : NoteUnit) :
    (s.setNotes v).softLevels = s.softLevels := rfl
@[simp] theorem setNotes_sources (s : State) (v : NoteUnit) : (s.setNotes v).sources = s.sources := rfl
@[simp] theorem setNotes_queue (s : State) (v : NoteUnit) : (s.setNotes v).queue = s.queue := rfl
@[simp] theorem setNotes_delivered (s : State) (v : NoteUnit) :
    (s.setNotes v).delivered = s.delivered := rfl
@[simp] theorem setNotes_arbiter (s : State) (v : NoteUnit) : (s.setNotes v).arbiter = s.arbiter := rfl
@[simp] theorem setNotes_tx (s : State) (v : NoteUnit) : (s.setNotes v).tx = s.tx := rfl
@[simp] theorem setNotes_window (s : State) (v : NoteUnit) : (s.setNotes v).window = s.window := rfl
@[simp] theorem setNotes_receiver (s : State) (v : NoteUnit) : (s.setNotes v).receiver = s.receiver := rfl
@[simp] theorem setNotes_session (s : State) (v : NoteUnit) : (s.setNotes v).session = s.session := rfl
@[simp] theorem setNotes_notes (s : State) (v : NoteUnit) : (s.setNotes v).notes = v := rfl
@[simp] theorem setNotes_replies (s : State) (v : NoteUnit) : (s.setNotes v).replies = s.replies := rfl
@[simp] theorem setNotes_regs (s : State) (v : NoteUnit) : (s.setNotes v).regs = s.regs := rfl
@[simp] theorem setNotes_src (s : State) (v : NoteUnit) (m : SourceId) :
    (s.setNotes v).src m = s.src m := rfl
@[simp] theorem setNotes_line (s : State) (v : NoteUnit) (m : LineId) :
    (s.setNotes v).line m = s.line m := rfl
@[simp] theorem setNotes_softLevel (s : State) (v : NoteUnit) (m : SoftId) :
    (s.setNotes v).softLevel m = s.softLevel m := rfl

/-! ### setReplies -/

@[simp] theorem setReplies_pending (s : State) (v : List Reply) :
    (s.setReplies v).pending = s.pending := rfl
@[simp] theorem setReplies_now (s : State) (v : List Reply) : (s.setReplies v).now = s.now := rfl
@[simp] theorem setReplies_freeCount (s : State) (v : List Reply) :
    (s.setReplies v).freeCount = s.freeCount := rfl
@[simp] theorem setReplies_resetting (s : State) (v : List Reply) :
    (s.setReplies v).resetting = s.resetting := rfl
@[simp] theorem setReplies_bus (s : State) (v : List Reply) : (s.setReplies v).bus = s.bus := rfl
@[simp] theorem setReplies_lines (s : State) (v : List Reply) : (s.setReplies v).lines = s.lines := rfl
@[simp] theorem setReplies_softLevels (s : State) (v : List Reply) :
    (s.setReplies v).softLevels = s.softLevels := rfl
@[simp] theorem setReplies_sources (s : State) (v : List Reply) :
    (s.setReplies v).sources = s.sources := rfl
@[simp] theorem setReplies_queue (s : State) (v : List Reply) : (s.setReplies v).queue = s.queue := rfl
@[simp] theorem setReplies_delivered (s : State) (v : List Reply) :
    (s.setReplies v).delivered = s.delivered := rfl
@[simp] theorem setReplies_arbiter (s : State) (v : List Reply) :
    (s.setReplies v).arbiter = s.arbiter := rfl
@[simp] theorem setReplies_tx (s : State) (v : List Reply) : (s.setReplies v).tx = s.tx := rfl
@[simp] theorem setReplies_window (s : State) (v : List Reply) : (s.setReplies v).window = s.window := rfl
@[simp] theorem setReplies_receiver (s : State) (v : List Reply) :
    (s.setReplies v).receiver = s.receiver := rfl
@[simp] theorem setReplies_session (s : State) (v : List Reply) :
    (s.setReplies v).session = s.session := rfl
@[simp] theorem setReplies_notes (s : State) (v : List Reply) : (s.setReplies v).notes = s.notes := rfl
@[simp] theorem setReplies_replies (s : State) (v : List Reply) : (s.setReplies v).replies = v := rfl
@[simp] theorem setReplies_regs (s : State) (v : List Reply) : (s.setReplies v).regs = s.regs := rfl
@[simp] theorem setReplies_src (s : State) (v : List Reply) (m : SourceId) :
    (s.setReplies v).src m = s.src m := rfl
@[simp] theorem setReplies_line (s : State) (v : List Reply) (m : LineId) :
    (s.setReplies v).line m = s.line m := rfl
@[simp] theorem setReplies_softLevel (s : State) (v : List Reply) (m : SoftId) :
    (s.setReplies v).softLevel m = s.softLevel m := rfl

/-! ### setRegs -/

@[simp] theorem setRegs_pending (s : State) (v : Registers) : (s.setRegs v).pending = s.pending := rfl
@[simp] theorem setRegs_now (s : State) (v : Registers) : (s.setRegs v).now = s.now := rfl
@[simp] theorem setRegs_freeCount (s : State) (v : Registers) : (s.setRegs v).freeCount = s.freeCount := rfl
@[simp] theorem setRegs_resetting (s : State) (v : Registers) : (s.setRegs v).resetting = s.resetting := rfl
@[simp] theorem setRegs_bus (s : State) (v : Registers) : (s.setRegs v).bus = s.bus := rfl
@[simp] theorem setRegs_lines (s : State) (v : Registers) : (s.setRegs v).lines = s.lines := rfl
@[simp] theorem setRegs_softLevels (s : State) (v : Registers) :
    (s.setRegs v).softLevels = s.softLevels := rfl
@[simp] theorem setRegs_sources (s : State) (v : Registers) : (s.setRegs v).sources = s.sources := rfl
@[simp] theorem setRegs_queue (s : State) (v : Registers) : (s.setRegs v).queue = s.queue := rfl
@[simp] theorem setRegs_delivered (s : State) (v : Registers) : (s.setRegs v).delivered = s.delivered := rfl
@[simp] theorem setRegs_arbiter (s : State) (v : Registers) : (s.setRegs v).arbiter = s.arbiter := rfl
@[simp] theorem setRegs_tx (s : State) (v : Registers) : (s.setRegs v).tx = s.tx := rfl
@[simp] theorem setRegs_window (s : State) (v : Registers) : (s.setRegs v).window = s.window := rfl
@[simp] theorem setRegs_receiver (s : State) (v : Registers) : (s.setRegs v).receiver = s.receiver := rfl
@[simp] theorem setRegs_session (s : State) (v : Registers) : (s.setRegs v).session = s.session := rfl
@[simp] theorem setRegs_notes (s : State) (v : Registers) : (s.setRegs v).notes = s.notes := rfl
@[simp] theorem setRegs_replies (s : State) (v : Registers) : (s.setRegs v).replies = s.replies := rfl
@[simp] theorem setRegs_regs (s : State) (v : Registers) : (s.setRegs v).regs = v := rfl
@[simp] theorem setRegs_src (s : State) (v : Registers) (m : SourceId) :
    (s.setRegs v).src m = s.src m := rfl
@[simp] theorem setRegs_line (s : State) (v : Registers) (m : LineId) :
    (s.setRegs v).line m = s.line m := rfl
@[simp] theorem setRegs_softLevel (s : State) (v : Registers) (m : SoftId) :
    (s.setRegs v).softLevel m = s.softLevel m := rfl

/-- What `line` reads after `setLine`: the value set at its own number, the old value elsewhere. -/
theorem setLine_line (s : State) (n m : LineId) (v : Line) :
    (s.setLine n v).line m = if m = n then v else s.line m := by
  simp only [setLine, line, Vector.getElem_set, Fin.ext_iff, eq_comm]

@[simp] theorem setLine_line_self (s : State) (n : LineId) (v : Line) : (s.setLine n v).line n = v := by
  simp [setLine_line]

theorem setLine_line_ne (s : State) (n m : LineId) (v : Line) (h : m ≠ n) :
    (s.setLine n v).line m = s.line m := by
  simp [setLine_line, h]

/-- What `softLevel` reads after `setSoftLevel`: the value set at its own number, the old value elsewhere. -/
theorem setSoftLevel_softLevel (s : State) (n m : SoftId) (v : Bool) :
    (s.setSoftLevel n v).softLevel m = if m = n then v else s.softLevel m := by
  simp only [setSoftLevel, softLevel, Vector.getElem_set, Fin.ext_iff, eq_comm]

@[simp] theorem setSoftLevel_softLevel_self (s : State) (n : SoftId) (v : Bool) : (s.setSoftLevel n v).softLevel n = v := by
  simp [setSoftLevel_softLevel]

theorem setSoftLevel_softLevel_ne (s : State) (n m : SoftId) (v : Bool) (h : m ≠ n) :
    (s.setSoftLevel n v).softLevel m = s.softLevel m := by
  simp [setSoftLevel_softLevel, h]

/-- What `src` reads after `setSrc`: the value set at its own number, the old value elsewhere. -/
theorem setSrc_src (s : State) (n m : SourceId) (v : Source) :
    (s.setSrc n v).src m = if m = n then v else s.src m := by
  simp only [setSrc, src, Vector.getElem_set, Fin.ext_iff, eq_comm]

@[simp] theorem setSrc_src_self (s : State) (n : SourceId) (v : Source) : (s.setSrc n v).src n = v := by
  simp [setSrc_src]

theorem setSrc_src_ne (s : State) (n m : SourceId) (v : Source) (h : m ≠ n) :
    (s.setSrc n v).src m = s.src m := by
  simp [setSrc_src, h]

end Sys2Proof.Machine.State
end

