-- ==== Sys2Proof/Laws/Table.lean ====
section
/-! SUPPORT. What the shared operations of the flags, the Event Queue, the Line Sampler and the Source
Table do, each said once in the words of Safety.lean, so that a proof cites it instead of unfolding it. -/

namespace Sys2Proof.Machine.State

/-! ### Flags, counters, refusals -/

/-- Each flag's bit as a word of CAUSE (section 11.3). -/
theorem flagMask_eq (f : CauseFlag) :
    f.mask = match f with
      | .linkUp => 0x01#8 | .linkDown => 0x02#8 | .noteIn => 0x04#8 | .noteSlot => 0x08#8
      | .unmatched => 0x10#8 | .remoteAction => 0x20#8 | .refused => 0x40#8 | .overrun => 0x80#8 := by
  cases f <;> decide

theorem raiseFlag_eq (s : State) (f : CauseFlag) : s.raiseFlag f = s.withCause f.mask := rfl

theorem count_withdrawn_eq (s : State) : s.count .eventsWithdrawn = s.withWithdrawn 1 := rfl

theorem countN_withdrawn_eq (s : State) (k : Nat) : s.countN k .eventsWithdrawn = s.withWithdrawn k := rfl

/-- A count changes one counter of the Register Window and nothing else. -/
theorem count_eq (s : State) (c : Counter) :
    s.count c = { s with regs := { s.regs with stats := s.regs.stats.add 1 c } } := rfl

/-- A refused write that has completed (R181). -/
theorem refuse_complete_eq (s : State) (r : Request) (operand : BitVec 16) (reason : RefuseReason) :
    (s.refuse r operand reason).complete = s.afterRefusal r.code operand reason := rfl

theorem complete_eq (s : State) : s.complete = s.ready := rfl

/-- Counts that follow one another are one count of the sum (R186). -/
theorem saturate32_add (v : Word) (j k : Nat) : saturate32 (saturate32 v j) k = saturate32 v (j + k) := by
  unfold saturate32
  by_cases h : v.toNat + j < 2 ^ 32
  · simp only [h, if_true, BitVec.toNat_ofNat, Nat.mod_eq_of_lt h, Nat.add_assoc]
  · have h' : ¬ v.toNat + (j + k) < 2 ^ 32 := by omega
    simp only [h, h', if_false]
    by_cases hk : (BitVec.allOnes 32).toNat + k < 2 ^ 32
    · have : k = 0 := by simp at hk; omega
      subst this; rfl
    · rw [if_neg hk]

theorem saturate32_zero (v : Word) : saturate32 v 0 = v := by
  unfold saturate32
  have := v.isLt
  simp [this]

/-! ### Event Queue and re-evaluation -/

/-- A message created at the tail (R41, R70). -/
theorem queueTail_eq (s : State) (n : SourceId) (count : Byte) (overrun resent : Bool) :
    s.queueTail n count overrun resent = s.placed ((s.src n).message n count overrun resent) := rfl

/-- The message of a LEVEL source. -/
theorem message_level (s : State) (n : SourceId) (resent : Bool) (h : (s.src n).sense.isLevel = true) :
    (s.src n).message n 1 false resent = s.levelMessage n resent := by
  simp [Source.message, levelMessage, h]

/-- The message of an EDGE source. -/
theorem message_edge (s : State) (n : SourceId) (count : Byte) (overrun resent : Bool)
    (h : (s.src n).sense.isLevel = false) :
    (s.src n).message n count overrun resent = s.edgeMessage n count overrun resent := by
  simp [Source.message, edgeMessage, h]

/-- The Bool of R23 and its four conditions. -/
theorem raisable_iff (s : State) (n : SourceId) : s.raisable n = true ↔ s.asserts n := by
  simp [raisable, asserts, and_assoc]

/-- Re-evaluation (R23). -/
theorem reevaluate_eq (s : State) (n : SourceId) (resent : Bool) :
    s.reevaluate n resent = s.checked n resent := by
  unfold reevaluate checked
  by_cases h : s.asserts n
  · rw [if_pos ((s.raisable_iff n).2 h), if_pos h, queueTail_eq, message_level _ _ _ h.2.2.1]
  · rw [if_neg (fun c => h ((s.raisable_iff n).1 c)), if_neg h]

/-- A withdrawal (R41, R72). -/
theorem withdrawSource_eq (s : State) (n : SourceId) : s.withdrawSource n = s.unplaced n := rfl

/-- The qualified level of a line source (R4). -/
theorem qualified_line (s : State) (l : LineId) :
    s.qualified (lineSource l) =
      if (s.src (lineSource l)).sense = .levelLow then !(s.line l).accepted else (s.line l).accepted := by
  simp [qualified, lineSource]

/-- The qualified level of a soft source (R10). -/
theorem qualified_soft (s : State) (k : SoftId) : s.qualified (softSource k) = s.softLevel k := by
  simp [qualified, softSource]

/-! ### Reports -/

/-- An edge event at a source of class EDGE (R42, R43, R45, R49, R50). -/
theorem edgeEvent_outcome (s : State) (n : SourceId) (h : (s.src n).sense.isLevel = false) :
    EdgeOutcome s n (.next (s.edgeEvent n)) := by
  refine ⟨fun hd => ?_, fun he hm => ⟨fun hs => ?_, fun hs m hq => ?_, fun hs => ?_⟩⟩
  · rcases hd with hd | hd <;> simp [edgeEvent, hd]
  · simp [edgeEvent, he, hm, hs, queueTail_eq, message_edge _ _ _ _ _ h]
  · have hq : s.messageOf n = some m := hq
    simp only [edgeEvent, he, hm, hs, coalesce, hq, Bool.not_false, Bool.and_self, if_true]
    by_cases hc : m.count = 255
    · rw [if_pos hc, if_pos hc]; rfl
    · rw [if_neg hc, if_neg hc]; rfl
  · rcases hs with hs | hs <;>
      (simp only [edgeEvent, he, hm, hs, countPending, Bool.not_false, Bool.and_self, if_true]
       by_cases hc : (s.src n).pending = 255
       · rw [if_pos hc, if_pos hc]; rfl
       · rw [if_neg hc, if_neg hc]; rfl)

/-- A level change at a source of class LEVEL (R42, R44, R46, R51). -/
theorem levelChange_outcome (s : State) (n : SourceId) (asserted : Bool)
    (h : (s.src n).sense.isLevel = true) : LevelOutcome s n asserted (.next (s.levelChange n asserted)) := by
  refine ⟨fun hd => ?_, fun he => ⟨fun hs => ?_, fun hs => ?_, fun hs => ?_⟩⟩
  · simp [levelChange, hd]
  · have hq : s.queueTail n 1 false false = s.placed (s.levelMessage n false) := by
      rw [queueTail_eq, message_level _ _ _ h]
    cases asserted <;> cases hm : (s.src n).mask <;> simp [levelChange, he, hs, hm] <;> exact hq
  · cases asserted <;> simp [levelChange, he, hs, withdrawSource_eq]
  · rcases hs with hs | hs | hs <;> simp [levelChange, he, hs]

/-- The report of an acceptance by SENSE (R5). -/
theorem reportAcceptance_outcome (s : State) (n : SourceId) (rising : Bool) :
    AcceptanceOutcome s n rising (.next (s.reportAcceptance n rising)) := by
  unfold AcceptanceOutcome reportAcceptance
  cases hs : (s.src n).sense
  · exact s.levelChange_outcome n rising (by simp [hs, Sense.isLevel])
  · exact s.levelChange_outcome n (!rising) (by simp [hs, Sense.isLevel])
  · cases rising
    · simp
    · exact s.edgeEvent_outcome n (by simp [hs, Sense.isLevel])
  · cases rising
    · exact s.edgeEvent_outcome n (by simp [hs, Sense.isLevel])
    · simp
  · exact s.edgeEvent_outcome n (by simp [hs, Sense.isLevel])

/-- An acceptance where the accepted value changes (R2, R3, R6). -/
theorem acceptLine_eq (s : State) (l : LineId) (h : (s.line l).accepted ≠ (s.line l).observed) :
    s.acceptLine l =
      (s.setLine l { s.line l with accepted := (s.line l).observed, interval := none }).reportAcceptance
        (lineSource l) (s.line l).observed := if_neg h

/-! ### Masks -/

/-- A mask set request (R30). -/
theorem maskSet_eq (s : State) (n : SourceId) :
    s.maskSet n =
      (let masked : State := { s with
        sources := s.sources.set n.val
          { s.src n with mask := true, pending := 0, pendOvr := false } n.isLt }
      if (s.src n).state = .queued then masked.unplaced n else masked) := rfl

/-- A mask clear request (R31). -/
theorem maskClear_eq (s : State) (n : SourceId) :
    s.maskClear n =
      (let cleared : State := { s with
        sources := s.sources.set n.val { s.src n with mask := false } n.isLt }
      if (s.src n).state = .idle then cleared.checked n false else cleared) := by
  simp only [maskClear, reevaluate_eq]; rfl

/-! ### Acknowledgment, release and session end -/

/-- PENDING edges delivered, or nothing left to deliver (R53, R59). -/
theorem flushPending_eq (s : State) (n : SourceId) (h : (s.src n).sense.isLevel = false) :
    s.flushPending n =
      (let quiet : State := { s with
        sources := s.sources.set n.val
          { s.src n with pending := 0, pendOvr := false, state := .idle } n.isLt }
      if (s.src n).pending ≠ 0 ∧ (s.src n).mask = false then
        quiet.placed (s.edgeMessage n (s.src n).pending (s.src n).pendOvr false)
      else quiet) := by
  simp only [flushPending, queueTail_eq]
  by_cases hp : (s.src n).pending = 0 <;> cases hm : (s.src n).mask <;>
    simp [hp, Source.message, edgeMessage, h] <;> rfl

/-- A source acknowledged, of class LEVEL (R52). -/
theorem ackSource_level (s : State) (n : SourceId) (h : (s.src n).sense.isLevel = true) :
    s.ackSource n = { s with
      sources := s.sources.set n.val { s.src n with state := .delivered } n.isLt,
      delivered := s.delivered ++ [n] } := by
  simp [ackSource, h]; rfl

/-- A source acknowledged, of class EDGE with a HOLD (R53). -/
theorem ackSource_hold (s : State) (n : SourceId) (h : (s.src n).sense.isLevel = false)
    (hh : (s.src n).hold ≠ 0) :
    s.ackSource n = { s with
      sources := s.sources.set n.val { s.src n with state := .holdoff, holdoff := some s.now } n.isLt } := by
  rw [ackSource, h, if_neg Bool.false_ne_true, if_pos hh]; rfl

/-- A source acknowledged, of class EDGE with HOLD 0 (R53). -/
theorem ackSource_edge (s : State) (n : SourceId) (h : (s.src n).sense.isLevel = false)
    (hh : (s.src n).hold = 0) : s.ackSource n = s.flushPending n := by
  rw [ackSource, h, if_neg Bool.false_ne_true, if_neg (not_not.2 hh)]

/-- A DELIVERED source released by a Completion (R56). -/
theorem releaseSource_eq (s : State) (n : SourceId) :
    s.releaseSource n =
      if (s.src n).hold ≠ 0 then { s with
        sources := s.sources.set n.val { s.src n with state := .holdoff, holdoff := some s.now } n.isLt }
      else State.checked { s with
        sources := s.sources.set n.val { s.src n with state := .idle } n.isLt } n false := by
  simp only [releaseSource, reevaluate_eq]; rfl

/-- A DELIVERED source at session end (R64). -/
theorem abandonSource_eq (s : State) (n : SourceId) :
    s.abandonSource n = State.checked { s with
      sources := s.sources.set n.val { s.src n with state := .idle } n.isLt } n true := by
  simp only [abandonSource, reevaluate_eq]; rfl

/-! ### Device reset and the local bus -/

/-- Outside a reset an event is taken. -/
theorem unlessReset_none (s : State) (f : State → State) (h : s.resetting = none) :
    s.unlessReset f = f s := by
  simp [unlessReset, inReset, h]

/-- During a reset an event has no effect (R190). -/
theorem unlessReset_some (s : State) (f : State → State) (h : s.resetting ≠ none) :
    s.unlessReset f = s := by
  cases hr : s.resetting
  · exact absurd hr h
  · simp [unlessReset, inReset, hr]

/-- Outside a reset an access is taken whole, and completes (R178). -/
theorem onBus_none (s : State) (a : Access) (f : State → State) (h : s.resetting = none) :
    s.onBus a f = (f s).ready := by
  simp [onBus, inReset, h, complete_eq]

/-- During a reset an access waits (R178, R188). -/
theorem onBus_some (s : State) (a : Access) (f : State → State) (h : s.resetting ≠ none) :
    s.onBus a f = { s with bus := { s.bus with waiting := s.bus.waiting ++ [a], ready := false } } := by
  rw [onBus, if_pos (by simpa [inReset] using Option.isSome_iff_ne_none.2 h)]; rfl

end Sys2Proof.Machine.State
end

