-- ==== Sys2Proof/Laws/Link.lean ====
section
/-! SUPPORT. What the shared operations of the Session Controller, the Retransmit Window, the Link Receiver
and the Transmit Arbiter do, each said once as one equation between states. -/

namespace Sys2Proof.Machine

/-! ### Sequence numbers of the Window -/

/-- An empty Window holds no number (R124). -/
theorem Window.holds_nil (w : Window) (n : SeqNum) (h : w.records = []) : w.holds n = false := by
  simp [Window.holds, h]

/-- The classes of an inbound sequenced frame by the distance ahead of E (R138). -/
theorem classify_eq (e n : SeqNum) :
    classify e n =
      if n = e then .expected else if 32 ≤ (n - e).toNat then .duplicate else .ahead := by
  have h : n - e = 0 ↔ n = e := by
    constructor
    · intro h
      have := congrArg (· + e) h
      simpa using this
    · rintro rfl; simp
  simp only [classify, h]

namespace State

/-! ### Link states -/

/-- A change of link state returns frame assembly to HUNT (R102). -/
theorem setLink_eq (s : State) (l : Link) :
    s.setLink l = { s with
      session := { s.session with link := l }, receiver := { s.receiver with assembly := none } } := rfl

/-- SYNCING entered (R107, R110). -/
theorem enterSyncing_eq (s : State) :
    s.enterSyncing = { s with
      session := { s.session with link := .syncing, syncCount := 0 },
      receiver := { s.receiver with assembly := none } } := rfl

/-- GREETING left (R114). -/
theorem stopGreeting_eq (s : State) :
    s.stopGreeting = { s with
      session := { s.session with greetTimeout := none },
      arbiter := { s.arbiter with helloDue := false, greetInterval := none } } := rfl

/-- GREETING left without a session (R108, R109, R113, R116). -/
theorem abandonGreeting_eq (s : State) :
    s.abandonGreeting = { s with
      session := { s.session with heard := false, agreed := 0, greetTimeout := none },
      arbiter := { s.arbiter with helloDue := false, greetInterval := none } } := rfl

/-- GREETING entered (R111). -/
theorem enterGreeting_eq (s : State) :
    s.enterGreeting = { s with
      session := { s.session with
        link := .greeting, syncCount := 0, localEpoch := s.session.localEpoch + 1, heard := false,
        agreed := 0, greetTimeout := some s.now },
      arbiter := { s.arbiter with helloDue := true, greetInterval := some s.now },
      receiver := { s.receiver with assembly := none } } := rfl

/-- The recording of a fault changes the Session Controller alone (R120). -/
theorem recordFault_eq (s : State) (cause : FaultCause) :
    s.recordFault cause = { s with
      session := { s.session with
        faultCause := if s.session.faultCause = .none then cause else s.session.faultCause,
        faultCount := if s.session.faultCause = .none ∨ s.session.faultCount = 255 then
          s.session.faultCount else s.session.faultCount + 1 } } := by
  unfold recordFault
  by_cases h : s.session.faultCause = .none
  · rw [if_pos h, if_pos h, if_pos (.inl h)]; rfl
  · by_cases hc : s.session.faultCount = 255
    · rw [if_neg h, if_pos hc, if_neg h, if_pos (.inr hc)]
    · rw [if_neg h, if_neg hc, if_neg h, if_neg (by tauto)]; rfl

/-- Entry to FAILED (R116, R119, R120), whatever leaving the link state has done. -/
theorem enterFailed_eq (s : State) (cause : FaultCause) :
    s.enterFailed cause = State.withCause { s.leaveLink with
      session := { (s.leaveLink.recordFault cause).session with
        link := .failed,
        restartDelay := if s.leaveLink.regs.linkCfg.auto then some s.leaveLink.now else none },
      receiver := { s.leaveLink.receiver with assembly := none }, tx := some .brk } 0x02#8 := by
  unfold enterFailed
  generalize s.leaveLink = u
  simp only [recordFault_eq, raiseFlag_eq, flagMask_eq, withCause, setSession, setLink, setReceiver, setTx]

/-- Session start (R114; assumption log 14). -/
theorem startSession_eq (s : State) :
    s.startSession = { s with
      session := { s.session with link := .active, greetTimeout := none },
      window := { records := [], next := 0, retry := 0, timer := none },
      receiver := { assembly := none, badRun := 0, expected := 0, nakSent := false },
      arbiter := { s.arbiter with
        turn := .note, resend := none, finalHelloDue := true, helloDue := false, greetInterval := none },
      regs := { s.regs with
        cause := s.regs.cause ||| 0x01#8,
        stats := { s.regs.stats with sessions := saturate32 s.regs.stats.sessions 1 } } } := by
  simp only [startSession, stopGreeting, raiseFlag_eq, flagMask_eq, withCause, count, countN, Stats.add,
    setSession, setLink, setReceiver, setArbiter, setWindow, setRegs, Window.reset]

/-! ### Sequence handling -/

/-- An expected frame accepted (R140). -/
theorem acceptSequenced_eq (s : State) (n : SeqNum) :
    s.acceptSequenced n = { s with
      receiver := { s.receiver with expected := n + 1, nakSent := false },
      arbiter := s.receivedArbiter n } := rfl

/-- A duplicate (R142). -/
theorem duplicate_eq (s : State) :
    s.duplicate = { s with
      arbiter := { s.arbiter with ackDue := some (s.receiver.expected - 1) },
      regs := { s.regs with stats := { s.regs.stats with
        inboundDuplicates := saturate32 s.regs.stats.inboundDuplicates 1 } } } := rfl

/-- A frame ahead of E (R143). -/
theorem ahead_eq (s : State) :
    s.ahead = if s.receiver.nakSent = true then s else { s with
      arbiter := { s.arbiter with nakDue := some s.receiver.expected },
      receiver := { s.receiver with nakSent := true } } := rfl

/-- An unmatched Completion (R151). -/
theorem unmatchedCompletion_eq (s : State) (v : Byte) (oldest : Bool) (reason : UnmatchedReason) :
    s.unmatchedCompletion v oldest reason = { s with
      regs := { s.regs with
        cause := s.regs.cause ||| 0x10#8,
        unmatched := { vector := v, oldest := oldest, reason := reason },
        stats := { s.regs.stats with
          completionsUnmatched := saturate32 s.regs.stats.completionsUnmatched 1 } } } := rfl

/-- A note accepted into the FIFO (R166). -/
theorem takeNote_eq (s : State) (tag : Byte) (data : List Byte) :
    s.takeNote tag data = { s with
      notes := { s.notes with fifo := s.notes.fifo ++ [{ tag := tag, data := data }] },
      regs := { s.regs with cause := s.regs.cause ||| 0x04#8 } } := rfl

/-- A reply appended (R169). -/
theorem answer_eq (s : State) (tag : Byte) (result : ReplyResult) (records : List SourceRecord) :
    s.answer tag result records =
      { s with replies := s.replies ++ [{ tag := tag, result := result, records := records }] } := rfl

/-! ### Transmission -/

/-- The transmit pair rests at 1 while nothing is sent (R88). -/
@[simp] theorem txLevel_idle (s : State) (h : s.tx = none) (k : Nat) : s.txLevel k = true := by
  simp [txLevel, h, Config.restLevel]

/-- While an item is sent, the pair has the item's level, and 1 from its end on (R88, R91). -/
theorem txLevel_item (s : State) (i : Item) (h : s.tx = some i) (k : Nat) :
    s.txLevel k = i.wire.getD k true := by
  simp [txLevel, h, Config.restLevel]

/-- A device reset leaves the pair at 1 (R87). -/
theorem txLevel_enterReset (s : State) (cause : ResetCause) (k : Nat) :
    (s.enterReset cause).txLevel k = true := txLevel_idle _ rfl k

/-- A grant (R81, R125). -/
theorem grant_eq (s : State) (b : Body) : s.grant b = s.granted b := rfl

/-- The end of the item in transmission (R76, R126). -/
theorem endItem_eq (s : State) : s.endItem = { s.itemEnded with tx := none } := by
  unfold endItem itemEnded endReport
  cases hx : s.tx with
  | none => rfl
  | some i =>
    cases i <;> try rfl
    cases s.window.timer <;> cases hr : s.window.records <;> simp [hr, setTx, setWindow]

/-- Frame boundaries leave the queue of commands, the clock, the sampler and the bus alone: every item
begun is begun by `send` on these updates (R78 to R85). -/
theorem send_outside (s : State) (c : Choice) :
    (s.send c).pending = s.pending ∧ (s.send c).now = s.now ∧ (s.send c).lines = s.lines ∧
      (s.send c).softLevels = s.softLevels ∧ (s.send c).bus = s.bus ∧
      (s.send c).session = s.session ∧ (s.send c).receiver = s.receiver ∧
      (s.send c).delivered = s.delivered := by
  cases c <;> simp only [send, passTurn, grantEvent, grantNote, grant, count, countN]
  case event m => split <;> simp
  case note k n => split <;> simp
  all_goals simp

end State

end Sys2Proof.Machine
end

