-- ==== Sys2Proof/Laws/PerInstr.lean ====
section
/-! SUPPORT. The family BusAccess: the access of the local bus that a command is spells that command again
(R178, R180), one lemma for each command. -/

namespace Sys2Proof.Laws.BusAccess

/-- A well-formed command that is an access of the local bus is the command that the access spells. -/
def Statement (i : Instr) : Prop :=
  i.wellFormed = true → ∀ a : Access, i.access = some a → a.command = some i

/-- The code and the operand of a CMD write are those that were put there (section 11.3). -/
theorem cmdWord_fields (code op : Byte) :
    cmdCode (cmdWord code op) = code ∧ cmdOperand (cmdWord code op) = op := by
  have bits (i : Nat) : (cmdWord code op).getLsbD i =
      if i < 8 then code.getLsbD i else ((0 : BitVec 16) ++ op).getLsbD (i - 8) :=
    BitVec.getLsbD_append
  constructor
  · ext i hi
    simp [cmdCode, bits, hi]
  · ext i hi
    have h : ¬ 8 + i < 8 := by omega
    have low : ((0 : BitVec 16) ++ op).getLsbD i =
        if i < 8 then op.getLsbD i else (0 : BitVec 16).getLsbD (i - 8) :=
      BitVec.getLsbD_append
    simpa [cmdOperand, bits, h, hi] using low

/-- A CMD write spells the command of its code. -/
theorem command_of_code (code op : Byte) :
    Access.command (.write 0x30#8 (cmdWord code op)) = some (commandOfCode code op) := by
  have h := cmdWord_fields code op
  show some (commandOfCode (cmdCode (cmdWord code op)) (cmdOperand (cmdWord code op))) = _
  rw [h.1, h.2]

/-- A CMD write whose code names no command spells UNKNOWN_COMMAND. -/
theorem unknown_code (code op : Byte) (h : (Instr.unknownCommand code op).wellFormed = true) :
    Access.command (.write 0x30#8 (cmdWord code op)) = some (.unknownCommand code op) := by
  rw [command_of_code]
  have hk : ¬(1 ≤ code.toNat ∧ code.toNat ≤ 10) := by
    intro hk
    simp [Instr.wellFormed, knownCode, hk.1, hk.2] at h
  unfold commandOfCode
  split <;> first | rfl | (exfalso; omega)

/-- A write to a register without a row of its own spells REGISTER_WRITE. -/
theorem other_register (addr : Byte) (v : Word) (h : (Instr.registerWrite addr v).wellFormed = true) :
    Access.command (.write addr v) = some (.registerWrite addr v) := by
  have hr : (Register.ofAddr addr).hasOwnWriteRow = false := by simpa [Instr.wellFormed] using h
  simp only [Access.command, commandOfWrite]
  cases hx : Register.ofAddr addr <;> rw [hx] at hr <;> first | rfl | exact absurd hr (by decide)

theorem observedLineChange (line : LineId) (level : Bool) : Statement (.observedLineChange line level) := by
  rintro - a h
  cases h

theorem stabilityIntervalExpiry (line : LineId) : Statement (.stabilityIntervalExpiry line) := by
  rintro - a h
  cases h

theorem srcIndexWrite (value : Word) : Statement (.srcIndexWrite value) := by
  rintro - a h
  cases h
  rfl

theorem srcConfigWrite (value : Word) : Statement (.srcConfigWrite value) := by
  rintro - a h
  cases h
  rfl

theorem maskSetLo (value : Word) : Statement (.maskSetLo value) := by
  rintro - a h
  cases h
  rfl

theorem maskSetHi (value : Word) : Statement (.maskSetHi value) := by
  rintro - a h
  cases h
  rfl

theorem maskClrLo (value : Word) : Statement (.maskClrLo value) := by
  rintro - a h
  cases h
  rfl

theorem maskClrHi (value : Word) : Statement (.maskClrHi value) := by
  rintro - a h
  cases h
  rfl

theorem softRaise (value : Word) : Statement (.softRaise value) := by
  rintro - a h
  cases h
  rfl

theorem softLower (value : Word) : Statement (.softLower value) := by
  rintro - a h
  cases h
  rfl

theorem forceIdle (operand : Byte) : Statement (.forceIdle operand) := by
  rintro - a h
  cases h
  exact command_of_code _ _

theorem tableClear (operand : Byte) : Statement (.tableClear operand) := by
  rintro - a h
  cases h
  exact command_of_code _ _

theorem noteSend (operand : Byte) : Statement (.noteSend operand) := by
  rintro - a h
  cases h
  exact command_of_code _ _

theorem notePop (operand : Byte) : Statement (.notePop operand) := by
  rintro - a h
  cases h
  exact command_of_code _ _

theorem noteFlush (operand : Byte) : Statement (.noteFlush operand) := by
  rintro - a h
  cases h
  exact command_of_code _ _

theorem linkEnable (operand : Byte) : Statement (.linkEnable operand) := by
  rintro - a h
  cases h
  exact command_of_code _ _

theorem linkDisable (operand : Byte) : Statement (.linkDisable operand) := by
  rintro - a h
  cases h
  exact command_of_code _ _

theorem linkRestart (operand : Byte) : Statement (.linkRestart operand) := by
  rintro - a h
  cases h
  exact command_of_code _ _

theorem statsClear (operand : Byte) : Statement (.statsClear operand) := by
  rintro - a h
  cases h
  exact command_of_code _ _

theorem deviceReset (operand : Byte) : Statement (.deviceReset operand) := by
  rintro - a h
  cases h
  exact command_of_code _ _

theorem unknownCommand (code operand : Byte) : Statement (.unknownCommand code operand) := by
  intro hw a h
  cases h
  exact unknown_code _ _ hw

theorem linkCfgWrite (value : Word) : Statement (.linkCfgWrite value) := by
  rintro - a h
  cases h
  rfl

theorem linkStatusRead : Statement .linkStatusRead := by
  rintro - a h
  cases h
  rfl

theorem linkFaultRead : Statement .linkFaultRead := by
  rintro - a h
  cases h
  rfl

theorem causeWrite (value : Word) : Statement (.causeWrite value) := by
  rintro - a h
  cases h
  rfl

theorem causeEnWrite (value : Word) : Statement (.causeEnWrite value) := by
  rintro - a h
  cases h
  rfl

theorem registerWrite (addr : Byte) (value : Word) : Statement (.registerWrite addr value) := by
  intro hw a h
  cases h
  exact other_register _ _ hw

theorem rstN : Statement .rstN := by
  rintro - a h
  cases h

theorem powerUp : Statement .powerUp := by
  rintro - a h
  cases h

theorem resetEnd : Statement .resetEnd := by
  rintro - a h
  cases h

theorem character (c : RxChar) : Statement (.character c) := by
  rintro - a h
  cases h

theorem characterGap : Statement .characterGap := by
  rintro - a h
  cases h

theorem lineBreak : Statement .lineBreak := by
  rintro - a h
  cases h

theorem hello (heard : Bool) (revision window epoch role : Byte) : Statement (.hello heard revision window epoch role) := by
  rintro - a h
  cases h

theorem ack (number : SeqNum) : Statement (.ack number) := by
  rintro - a h
  cases h

theorem nak (number : SeqNum) : Statement (.nak number) := by
  rintro - a h
  cases h

theorem complete (seq : SeqNum) (oldest : Bool) (vector : Byte) : Statement (.complete seq oldest vector) := by
  rintro - a h
  cases h

theorem note (seq : SeqNum) (tag : Byte) (data : List Byte) : Statement (.note seq tag data) := by
  rintro - a h
  cases h

theorem control (seq : SeqNum) (tag op first count : Byte) : Statement (.control seq tag op first count) := by
  rintro - a h
  cases h

theorem frameBoundary : Statement .frameBoundary := by
  rintro - a h
  cases h

theorem holdoffExpiry (source : SourceId) : Statement (.holdoffExpiry source) := by
  rintro - a h
  cases h

theorem acknowledgmentTimerExpiry : Statement .acknowledgmentTimerExpiry := by
  rintro - a h
  cases h

theorem greetingIntervalExpiry : Statement .greetingIntervalExpiry := by
  rintro - a h
  cases h

theorem greetTimeout : Statement .greetTimeout := by
  rintro - a h
  cases h

theorem restartDelayExpiry : Statement .restartDelayExpiry := by
  rintro - a h
  cases h

end Sys2Proof.Laws.BusAccess
end

