-- ==== Sys2Proof/Tests/Slice0.lean ====
section
/-! SUPPORT. Our own tests: the checks of WellFormed, the spec's worked values, one small test of each
command's effect, and for every obligation with hypotheses a theorem that shows them met, clause by clause,
at the ends of their ranges. -/

namespace Sys2Proof.Tests

set_option Elab.async false

open Sys2Proof Sys2Proof.Machine

/-! ### Small states -/

/-- The state that an outcome answers. -/
def after : Result → State
  | .next t => t
  | .fault _ => State.reset
  | .refused _ => State.reset

/-- A state with an access of the local bus behind it, as `exec` leaves it. -/
def run (c : Instr) (s : State) : State := after (exec c s)

/-- A source of class LEVEL, enabled and unmasked. -/
def levelSource : Source :=
  { Source.reset with enable := true, mask := false, vector := 60, dest := 3, prio := 1 }

/-- A source of class EDGE, enabled and unmasked, with a HOLD. -/
def edgeSource : Source :=
  { Source.reset with enable := true, mask := false, sense := .rising, vector := 61, prio := 2, hold := 5 }

/-- The reset state with one source's entry. -/
def withSource (n : SourceId) (e : Source) : State :=
  { State.reset with sources := State.reset.sources.set n.val e n.isLt }

/-- The reset state in a link state. -/
def inLink (x : Session) : State := { State.reset with session := x }

/-- SYNCING with some good SYNC characters in a row. -/
def syncing (count : Nat) : State :=
  { inLink { Session.reset with link := .syncing, syncCount := count } with tx := some .sync }

/-- GREETING, just entered. -/
def greeting : State :=
  { inLink { Session.reset with link := .greeting, localEpoch := 1, greetTimeout := some 0 } with
    arbiter := { Arbiter.reset with helloDue := true, greetInterval := some 0 }, tx := some .sync }

/-- FAILED with AUTO 1 and the restart delay running. -/
def failed : State :=
  { inLink { Session.reset with link := .failed, faultCause := .peerBreak, restartDelay := some 0 } with
    regs := { Registers.reset .pin with linkCfg := { LinkCfg.reset with auto := true } } }

/-- ACTIVE with nothing to send. -/
def up : State :=
  inLink { Session.reset with
    link := .active, localEpoch := 1, peerEpoch := 40, heard := true, agreed := 4 }

/-- A frame in COLLECT. -/
def assembling (s : State) (c : Collecting) : State :=
  { s with receiver := { s.receiver with assembly := some c } }

/-- A line whose pin is high and accepted. -/
def highLine : Line := { pin := true, observed := true, accepted := true, interval := none }

/-- A short note. -/
def someNote : Note := { tag := 7, data := [1, 2] }

/-- The message of source 0 of `loaded`. -/
def message0 : Message := levelSource.message 0 1 false false

/-- The message of source 3 of `loaded`. -/
def message3 : Message := edgeSource.message 3 1 false false

/-- ACTIVE with three records in the Window (source 0, source 3, note slot 0; numbers 62, 63, 0), source 1
DELIVERED, source 2 QUEUED, source 4 in HOLDOFF, slot 1 WAITING, one inbound note and one reply. -/
def loaded : State :=
  { up with
    lines := ((up.lines.set 0 highLine).set 1 highLine).set 2 highLine,
    sources := ((((up.sources.set 0 { levelSource with state := .sent }).set 1
      { levelSource with state := .delivered }).set 2 { levelSource with state := .queued }).set 3
      { edgeSource with state := .sent, pending := 2 }).set 4
      { edgeSource with state := .holdoff, holdoff := some 0 },
    queue := up.queue.set 1 [levelSource.message 2 1 false false],
    delivered := [1],
    window :=
      { records :=
          [{ seq := 62, body := .event message0 }, { seq := 63, body := .event message3 },
            { seq := 0, body := .note 0 someNote }],
        next := 1, retry := 0, timer := some 0 },
    notes := { up.notes with
      slots := (up.notes.slots.set 0 (.inFlight someNote)).set 1 (.waiting someNote), order := [1],
      fifo := [someNote] },
    replies := [{ tag := 9, result := .ok, records := [] }] }

/-- `loaded` with the retry count at RETRIES. -/
def worn : State := { loaded with window := { loaded.window with retry := 4 } }

/-- ACTIVE with the eighth bad frame in a row under way. -/
def noisy : State :=
  { assembling up Collecting.start with
    receiver := { up.receiver with assembly := some Collecting.start, badRun := 7 } }

/-- ACTIVE with no free outbound slot, a full FIFO and a full Reply Queue. -/
def full : State :=
  { up with
    notes := { up.notes with
      slots := Vector.replicate 4 (.waiting someNote), order := [0, 1, 2, 3],
      fifo := List.replicate 4 someNote },
    replies := List.replicate 2 { tag := 9, result := .ok, records := [] } }

/-- A device reset by DEVICE_RESET in effect, with some accesses waiting. -/
def held (waiting : List Access) : State :=
  { State.reset.enterReset .command with bus := { State.reset.bus with waiting := waiting } }

/-- Soft source 32, RISING, in a delivery state. -/
def softRising (state : Delivery) (pending : Byte) : State :=
  withSource 32 { edgeSource with state := state, pending := pending }

/-- Soft source 32, RISING and QUEUED, its message with a count. -/
def softQueued (count : Byte) : State :=
  { softRising .queued 0 with
    queue := State.reset.queue.set 2 [edgeSource.message 32 count false false] }

/-- Soft source 32, LEVEL_HIGH, with a soft level bit and a delivery state. -/
def softLevel (bit : Bool) (state : Delivery) : State :=
  { withSource 32 { levelSource with state := state } with
    softLevels := State.reset.softLevels.set 0 bit }

/-- Source 0 with FILTER 2 µs, its line observed high and accepted low. -/
def filtered : State :=
  { withSource 0 { levelSource with filter := .f2 } with
    lines := State.reset.lines.set 0 { pin := true, observed := true, accepted := false, interval := some 0 } }

/-! ### The laws hold of these states -/

theorem test_inv_up : up.Inv := by constructor <;> decide +kernel
theorem test_inv_loaded : loaded.Inv := by constructor <;> decide +kernel
theorem test_inv_worn : worn.Inv := by constructor <;> decide +kernel
theorem test_inv_noisy : noisy.Inv := by constructor <;> decide +kernel
theorem test_inv_greeting : greeting.Inv := by constructor <;> decide +kernel
theorem test_inv_failed : failed.Inv := by constructor <;> decide +kernel
theorem test_inv_full : full.Inv := by constructor <;> decide +kernel
theorem test_inv_held : (held [.read 0]).Inv := by constructor <;> decide +kernel

/-! ### WellFormed -/

theorem test_wf_note_of_no_byte : (Instr.note 0 0 []).wellFormed = false := by decide
theorem test_wf_note_of_nine_bytes : (Instr.note 0 0 (List.replicate 9 0)).wellFormed = false := by decide
theorem test_wf_note_in_range :
    (Instr.note 0 0 [1]).wellFormed = true ∧ (Instr.note 0 0 (List.replicate 8 1)).wellFormed = true := by
  decide
theorem test_wf_unknown_code_is_a_command : (Instr.unknownCommand 0x0A 0).wellFormed = false := by decide
theorem test_wf_unknown_codes :
    (Instr.unknownCommand 0 0).wellFormed = true ∧ (Instr.unknownCommand 0x0B 0).wellFormed = true := by
  decide
theorem test_wf_write_of_a_register_with_a_row : (Instr.registerWrite 0x07 0).wellFormed = false := by decide
theorem test_wf_write_of_another_register : (Instr.registerWrite 0x44 0).wellFormed = true := by decide

/-! ### Values of the spec -/

theorem test_crc_of_the_nine_digits :
    crc16 [0x31, 0x32, 0x33, 0x34, 0x35, 0x36, 0x37, 0x38, 0x39] = 0x29B1#16 := by decide +kernel
theorem test_sof_character_on_the_line :
    charWire 0xA9 = [false, true, false, false, true, false, true, false, true, false, true] := by decide
theorem test_line_rests_high :
    State.reset.txLevel 0 = true ∧ (syncing 0).txLevel 0 = false ∧ (syncing 0).txLevel 11 = true := by
  decide +kernel
theorem test_unexamined_bits_of_a_hello :
    after (execAll (((RxFrame.hello true 2 4 40 2).bytes 0xE 63).map fun b => .character (goodChar b))
      greeting) = run (.hello true 2 4 40 2) greeting := by decide +kernel
theorem test_no_table_word_spells_a_command : ∀ n w, decodeTableWord n w = none := fun _ _ => rfl
theorem test_withFetchWord_changes_nothing : State.reset.withFetchWord 32 5 = State.reset := rfl
theorem test_link_cfg_word : LinkCfg.reset.word = 0x00043280#32 := by decide
theorem test_commands_of_cmd_words :
    Access.command (.write 0x30 0x2701) = some (.forceIdle 0x27) ∧
      Access.command (.write 0x33 0x000A) = some (.deviceReset 0) ∧
      Access.command (.write 0x30 0x0100) = some (.unknownCommand 0 1) := by decide
theorem test_no_source_beyond_39 : sourceOf 39 = some 39 ∧ sourceOf 40 = none := by decide

/-! ### One effect of each command -/

theorem test_observedLineChange :
    ((run (.observedLineChange 0 true) (withSource 0 levelSource)).src 0).state = .queued := by
  decide +kernel
theorem test_stabilityIntervalExpiry :
    (run (.stabilityIntervalExpiry 0) filtered).queue.messages = [levelSource.message 0 1 false false] := by
  decide +kernel
theorem test_srcIndexWrite : (run (.srcIndexWrite 39) State.reset).regs.srcIndex = 39 := by decide +kernel
theorem test_srcConfigWrite :
    let s := run (.srcConfigWrite 0x053C3105) State.reset
    (s.src 0).enable = true ∧ (s.src 0).sense = .rising ∧ (s.src 0).prio = 1 ∧ (s.src 0).hold = 5 ∧
      (s.src 0).dest = 3 ∧ (s.src 0).vector = 60 := by decide +kernel
theorem test_maskSetLo :
    ((run (.maskSetLo 4) loaded).src 2).state = .idle ∧ (run (.maskSetLo 4) loaded).queue.messages = [] := by
  decide +kernel
theorem test_maskSetHi : ((run (.maskSetHi 0xFFFFFF01) (softLevel false .idle)).src 32).mask = true := by
  decide +kernel
theorem test_maskClrLo : ((run (.maskClrLo 1) State.reset).src 0).mask = false := by decide +kernel
theorem test_maskClrHi : ((run (.maskClrHi 128) State.reset).src 39).mask = false := by decide +kernel
theorem test_softRaise :
    ((run (.softRaise 32) (softLevel false .idle)).src 32).state = .queued := by decide +kernel
theorem test_softLower :
    (run (.softLower 32) (softLevel true .idle)).softLevel 0 = false := by decide +kernel
theorem test_forceIdle : (run (.forceIdle 1) loaded).delivered = [] := by decide +kernel
theorem test_tableClear :
    (run (.tableClear 0) (withSource 7 edgeSource)).sources.toList.all (fun e => e.mask) = true := by
  decide +kernel
theorem test_noteSend :
    (run (.noteSend 0) State.reset).regs.refuse =
      { request := 0x03, operand := 0, reason := .badValue } := by decide +kernel
theorem test_notePop : (run (.notePop 0) loaded).notes.fifo = [] := by decide +kernel
theorem test_noteFlush :
    (run (.noteFlush 0) loaded).notes.slots.toList =
      [.inFlight someNote, .free, .free, .free] := by decide +kernel
theorem test_linkEnable : (run (.linkEnable 0) State.reset).tx = some .sync := by decide +kernel
theorem test_linkDisable :
    let s := run (.linkDisable 0) loaded
    s.session.link = .disabled ∧ s.window.records = [] ∧ s.tx = none ∧
      s.queue.messages.map (·.source) = [3, 0, 2, 1] := by decide +kernel
theorem test_linkRestart : (run (.linkRestart 0) up).tx = some .brk := by decide +kernel
theorem test_statsClear :
    (run (.statsClear 0) (run .lineBreak loaded)).regs.stats = Stats.zero := by decide +kernel
theorem test_deviceReset : (run (.deviceReset 0) loaded).resetting = some .command := by decide +kernel
theorem test_unknownCommand :
    (run (.unknownCommand 0xFF 3) State.reset).readRegister .refuseInfo = 0x00FF030F#32 := by decide +kernel
theorem test_linkCfgWrite : (run (.linkCfgWrite 0x00043281) State.reset).regs.linkCfg.rate = .mbit5 := by
  decide +kernel
theorem test_linkStatusRead :
    (run .linkStatusRead loaded).bus.readData = 0x00041343#32 ∧
      (run .linkStatusRead loaded).regs.epochPeer = 40 := by decide +kernel
theorem test_linkFaultRead :
    (run .linkFaultRead failed).bus.readData = 3 ∧
      (run .linkFaultRead failed).session.faultCause = .none := by decide +kernel
theorem test_causeWrite :
    (run (.causeWrite 1) (run (.hello true 2 4 40 2) greeting)).regs.cause = 0 := by decide +kernel
theorem test_causeEnWrite :
    (run (.causeEnWrite 0x02) (run .lineBreak up)).irqOutN = false := by decide +kernel
theorem test_registerWrite :
    (run (.registerWrite 0x46 0x0341) State.reset).notes.outLength = 3 := by decide +kernel
theorem test_rstN :
    run .rstN loaded = { held [] with
      resetting := some .pin, regs := Registers.reset .pin, lines := loaded.lines } := by decide +kernel
theorem test_powerUp : (run .powerUp loaded).resetting = some .pin := by decide +kernel
theorem test_resetEnd :
    (run .resetEnd (held [.write 0x04 3, .read 0x04])).bus =
      { waiting := [], ready := true, readData := 3 } := by decide +kernel
theorem test_character :
    (run (.character (goodChar 0xA9)) up).receiver.assembly = some Collecting.start := by decide +kernel
theorem test_characterGap : (run .characterGap noisy).session.faultCause = .lineErrors := by decide +kernel
theorem test_lineBreak : (run .lineBreak up).session.faultCause = .peerBreak := by decide +kernel
theorem test_hello :
    let s := run (.hello true 2 4 40 2) greeting
    s.session.link = .active ∧ s.session.agreed = 4 ∧ s.irqOutN = true := by decide +kernel
theorem test_ack :
    let s := run (.ack 63) loaded
    (s.src 0).state = .delivered ∧ (s.src 3).state = .holdoff ∧ s.delivered = [1, 0] ∧
      s.window.records.map (·.seq) = [0] := by decide +kernel
theorem test_nak :
    let s := run (.nak 0) loaded
    s.arbiter.resend = some 0 ∧ s.window.retry = 1 ∧ (s.src 0).state = .delivered := by decide +kernel
theorem test_complete :
    let s := run (.complete 0 false 60) loaded
    s.delivered = [] ∧ (s.src 1).state = .queued ∧ s.arbiter.ackDue = some 0 ∧ s.receiver.expected = 1 := by
  decide +kernel
theorem test_note : (run (.note 0 7 [1, 2]) up).notes.fifo = [someNote] := by decide +kernel
theorem test_control :
    (run (.control 0 5 3 38 2) up).replies.map (·.records.length) = [2] ∧
      (run (.control 0 5 3 39 2) up).replies.map (·.result) = [.badSource] := by decide +kernel
theorem test_frameBoundary :
    (run .frameBoundary { loaded with replies := [] }).tx =
      some (.sequenced { seq := 1, body := .note 1 someNote }) := by decide +kernel
theorem test_holdoffExpiry : ((run (.holdoffExpiry 4) loaded).src 4).state = .idle := by decide +kernel
theorem test_acknowledgmentTimerExpiry :
    (run .acknowledgmentTimerExpiry loaded).arbiter.resend = some 62 ∧
      (run .acknowledgmentTimerExpiry worn).session.faultCause = .retryLimit := by decide +kernel
theorem test_greetingIntervalExpiry :
    (run .greetingIntervalExpiry (run .frameBoundary greeting)).arbiter.helloDue = true := by decide +kernel
theorem test_greetTimeout : (run .greetTimeout greeting).session.link = .failed := by decide +kernel
theorem test_restartDelayExpiry : (run .restartDelayExpiry failed).session.link = .syncing := by
  decide +kernel

/-! ### The hypotheses of the obligations are met

One theorem for each obligation with hypotheses, under the obligation's name; one line for each clause, with
the ends of its range. -/

theorem test_met_StepRunsTheFrontCommand :
    { State.reset with pending := [.rstN, .powerUp] }.pending = Instr.rstN :: [.powerUp] ∧
      State.reset.pending = [] := ⟨rfl, rfl⟩

theorem test_met_ResetPutsEveryBlockAtItsResetValue : loaded.resetting = none := rfl

theorem test_met_ResetEndStartsTheDevice :
    up.resetting = none ∧
    ((held []).resetting = some .command ∧ (held []).ResetLaw ∧ (held []).bus.waiting = []) ∧
    ((held [.write 0x33 0x0A]).ResetLaw ∧
      Access.command (.write 0x33 0x0A) = some (.deviceReset 0)) ∧
    ((held [.read 0x3C]).ResetLaw ∧ Access.command (.read 0x3C) = none) := by decide +kernel

theorem test_met_ResetHoldsTheCommands :
    (held []).resetting ≠ none ∧ (Instr.noteSend 0).access = some (.write 0x30 3) ∧
      (Instr.frameBoundary.access = none ∧ Instr.frameBoundary ≠ .rstN ∧ Instr.frameBoundary ≠ .powerUp ∧
        Instr.frameBoundary ≠ .resetEnd) := by decide +kernel

theorem test_met_LinesAreFilteredAndReportBySense :
    (up.resetting = none ∧ (up.line 31).observed ≠ true ∧ (up.src (lineSource 31)).filter = .none ∧
      (up.line 31).accepted ≠ true) ∧
    (filtered.resetting = none ∧ (filtered.line 0).observed ≠ false ∧
      (filtered.src (lineSource 0)).filter ≠ .none) ∧
    ((filtered.line 0).interval ≠ none ∧ (filtered.line 0).observed ≠ (filtered.line 0).accepted) ∧
    (up.line 0).interval = none := by decide +kernel

/-- The states a report finds a source in (R42 to R51), as the outcomes of Safety.lean name them. -/
theorem test_met_outcomes :
    (State.reset.src 0).enable = false ∧
    ((softRising .idle 0).src 32).state = .idle ∧
    ((softQueued 255).src 32).state = .queued ∧
    ((softQueued 255).messageOf 32).map (·.count) = some 255 ∧
    ((softQueued 254).messageOf 32).map (·.count) = some 254 ∧
    (((softRising .sent 255).src 32).state = .sent ∧ ((softRising .sent 255).src 32).pending = 255) ∧
    (((softRising .holdoff 254).src 32).state = .holdoff ∧ ((softRising .holdoff 254).src 32).pending = 254) ∧
    ((loaded.src 1).enable = true ∧ (loaded.src 1).state = .delivered) ∧
    ((loaded.src 2).enable = true ∧ (loaded.src 2).state = .queued) := by decide +kernel

theorem test_met_SoftRequestOutsideTheSoftSourcesIsRefused :
    up.resetting = none ∧ (31 : Word).toNat < 32 ∧ (39 : Word).toNat = 32 + (7 : SoftId).val ∧ 40 ≤ (40 : Word).toNat ∧
      (40 ≤ (65535 : Word).toNat ∧ (65535 : Word).toNat ≤ 65535) ∧
      (40 ≤ (0xFFFFFFFF : Word).toNat ∧ ¬(0xFFFFFFFF : Word).toNat ≤ 65535) := by decide

theorem test_met_SoftRequestsActBySense :
    ((softRising .idle 0).resetting = none ∧ (32 : Word).toNat = 32 + (0 : SoftId).val ∧
      ((softRising .idle 0).src (softSource 0)).sense = .rising) ∧
    ((39 : Word).toNat = 32 + (7 : SoftId).val ∧ (up.src (softSource 7)).sense = .levelHigh ∧
      up.softLevel 7 = false) ∧
    (((softLevel true .idle).src (softSource 0)).sense = .levelHigh ∧
      (softLevel true .idle).softLevel 0 = true) := by decide +kernel

theorem test_met_SrcIndexTakesSourceNumbersAlone :
    up.resetting = none ∧ (0 : Word).toNat = (0 : SourceId).val ∧ (39 : Word).toNat = (39 : SourceId).val ∧
      40 ≤ (40 : Word).toNat := by decide

theorem test_met_SrcConfigIsRefusedBusyThenBadValue :
    (loaded.resetting = none ∧ (loaded.src loaded.regs.srcIndex).state ≠ .idle) ∧
    (let s := withSource 0 levelSource
     (s.src s.regs.srcIndex).enable = true ∧
      (0 : Word) &&& 0xFFFFF37E#32 ≠ ((s.src s.regs.srcIndex).configWord &&& 0xFFFFF37E#32)) ∧
    ((State.reset.src State.reset.regs.srcIndex).state = .idle ∧
      (State.reset.src State.reset.regs.srcIndex).enable = false) ∧
    5 ≤ ((0x0000000A : Word).extractLsb' 1 3).toNat ∧
    ((run (.srcIndexWrite 32) State.reset).regs.srcIndex.val = 32 ∧
      (0x00000002 : Word).extractLsb' 1 3 ≠ 0#3 ∧ (0x00000002 : Word).extractLsb' 1 3 ≠ 2#3) ∧
    ((0x00000001 : Word).getLsbD 0 = true ∧ ((0x00000001 : Word).extractLsb' 16 8).toNat = 0) ∧
    ((0x00FB0001 : Word).getLsbD 0 = true ∧ ((0x00FB0001 : Word).extractLsb' 16 8).toNat = 251) := by
  decide +kernel

theorem test_met_SrcConfigReplacesFieldsAndReevaluates :
    (State.reset.resetting = none ∧ (State.reset.src 0).state = .idle ∧ (State.reset.src 0).enable = false ∧
      Sense.anyEdge.code = (0x00FA0009 : Word).extractLsb' 1 3 ∧ ¬32 ≤ (0 : SourceId).val ∧
      ((0x00FA0009 : Word).extractLsb' 16 8).toNat = 250) ∧
    (let s := run (.srcIndexWrite 39) State.reset
     s.resetting = none ∧ (s.src s.regs.srcIndex).state = .idle ∧ 32 ≤ s.regs.srcIndex.val ∧
      Sense.rising.code = (0x00010005 : Word).extractLsb' 1 3 ∧
      ((0x00010005 : Word).extractLsb' 16 8).toNat = 1) ∧
    (let s := withSource 0 levelSource
     (s.src 0).state = .idle ∧ (s.src 0).enable = true ∧
      ((0x003C3100 : Word) &&& 0xFFFFF37E#32) = ((s.src 0).configWord &&& 0xFFFFF37E#32) ∧
      Sense.levelHigh.code = (0x003C3100 : Word).extractLsb' 1 3) := by decide +kernel

theorem test_met_MaskSetWithdrawsQueuedSources :
    loaded.resetting = none ∧ (loaded.src 2).state = .queued := by decide +kernel

theorem test_met_MaskClearReevaluatesIdleSources : up.resetting = none := rfl

theorem test_met_ForceIdleReleasesHeldSources :
    loaded.resetting = none ∧ 40 ≤ (40 : Byte).toNat ∧ 40 ≤ (255 : Byte).toNat ∧
    ((0 : Byte).toNat = (0 : SourceId).val ∧ (loaded.src 0).state = .sent) ∧
    ((39 : Byte).toNat = (39 : SourceId).val ∧ (loaded.src 39).state = .idle) ∧
    (loaded.src 2).state = .queued ∧ (loaded.src 1).state = .delivered ∧
    (loaded.src 4).state = .holdoff := by decide +kernel

theorem test_met_TableClearQuietsEverySource :
    (up.resetting = none ∧ up.session.link = .active) ∧
      (failed.resetting = none ∧ failed.session.link ≠ .active ∧ failed.Inv) :=
  ⟨⟨rfl, rfl⟩, rfl, by decide, test_inv_failed⟩

theorem test_met_NoteSendFillsTheLowestFreeSlot :
    (full.resetting = none ∧ ∀ k : SlotId, full.notes.slots[k.val] ≠ .free) ∧
    (State.reset.notes.slots[(0 : SlotId).val] = .free ∧ ∀ j : SlotId, ¬j < (0 : SlotId)) ∧
    (let s := { up with notes := { up.notes with
        slots := (Vector.replicate 4 (Slot.waiting someNote)).set 3 .free } }
     s.notes.slots[(3 : SlotId).val] = .free ∧ ∀ j : SlotId, j < 3 → s.notes.slots[j.val] ≠ .free) ∧
    (9 ≤ (9 : BitVec 4).toNat ∧ 9 ≤ (15 : BitVec 4).toNat) ∧
    (1 ≤ (1 : BitVec 4).toNat ∧ (8 : BitVec 4).toNat ≤ 8) := by decide +kernel

theorem test_met_NotePopAndNoteFlushDropNotes :
    (up.resetting = none ∧ up.notes.fifo = []) ∧
      (loaded.resetting = none ∧ loaded.notes.fifo = someNote :: []) := by decide +kernel

theorem test_met_RegisterWriteStagesOrIsIgnored :
    up.resetting = none ∧ (0x44 : Byte).extractLsb' 2 6 = 0x11#6 ∧ (0x47 : Byte).extractLsb' 2 6 = 0x11#6 ∧
      (0x48 : Byte).extractLsb' 2 6 = 0x12#6 ∧ (0x4F : Byte).extractLsb' 2 6 = 0x13#6 ∧
      (Instr.registerWrite 0x00 5).wellFormed = true ∧ (Instr.registerWrite 0xFF 5).wellFormed = true := by
  decide

theorem test_met_LinkEnableLeavesDisabledAlone :
    (State.reset.resetting = none ∧ State.reset.TxLaw ∧ State.reset.session.link = .disabled) ∧
      (up.resetting = none ∧ up.TxLaw ∧ up.session.link ≠ .disabled) := by decide +kernel

theorem test_met_LinkDisableStopsTheLink :
    State.reset.session.link = .disabled ∧ (syncing 3).session.link = .syncing ∧
      greeting.session.link = .greeting ∧ failed.session.link = .failed ∧
      (loaded.resetting = none ∧ loaded.session.link = .active ∧ loaded.Inv) :=
  ⟨rfl, rfl, rfl, rfl, rfl, rfl, test_inv_loaded⟩

theorem test_met_LinkRestartSendsABreak :
    State.reset.session.link = .disabled ∧ (syncing 3).session.link = .syncing ∧
      greeting.session.link = .greeting ∧ failed.session.link = .failed ∧
      (loaded.resetting = none ∧ loaded.session.link = .active ∧ loaded.Inv) :=
  ⟨rfl, rfl, rfl, rfl, rfl, rfl, test_inv_loaded⟩

theorem test_met_StatsClearZeroesTheCountersAlone :
    loaded.resetting = none ∧ (0xFFFFFFFE : Word).toNat + 1 < 2 ^ 32 ∧
      2 ^ 32 ≤ (0xFFFFFFFF : Word).toNat + 1 := by decide +kernel

theorem test_met_UnknownCommandCodesAreRefused :
    up.resetting = none ∧ (0 : Byte) = 0 ∧ 0x0B ≤ (0x0B : Byte).toNat ∧ 0x0B ≤ (0xFF : Byte).toNat ∧
      (0xFFFF270A : Word).extractLsb' 0 8 = 0x0A#8 ∧ (0xFFFF270A : Word).extractLsb' 8 8 = 0x27#8 := by
  decide

theorem test_met_LinkCfgIsWrittenInDisabledAlone :
    up.session.link ≠ .disabled ∧ State.reset.session.link = .disabled ∧
    (0x00043200 : Word).extractLsb' 4 4 = 0 ∧ 9 ≤ ((0x00043290 : Word).extractLsb' 4 4).toNat ∧
    (0x00040080 : Word).extractLsb' 8 8 = 0 ∧ (0x00003280 : Word).extractLsb' 16 4 = 0 ∧
    (let v : Word := 0x00010110
     ¬(v.extractLsb' 4 4 = 0 ∨ 9 ≤ (v.extractLsb' 4 4).toNat ∨ v.extractLsb' 8 8 = 0 ∨
       v.extractLsb' 16 4 = 0)) ∧
    (let v : Word := 0x001FFF83
     ¬(v.extractLsb' 4 4 = 0 ∨ 9 ≤ (v.extractLsb' 4 4).toNat ∨ v.extractLsb' 8 8 = 0 ∨
       v.extractLsb' 16 4 = 0)) := by decide

theorem test_met_ReadsThatChangeState :
    (loaded.resetting = none ∧ loaded.session.link = .active ∧ loaded.Inv) ∧
      (failed.resetting = none ∧ failed.session.link ≠ .active ∧ failed.Inv) :=
  ⟨⟨rfl, rfl, test_inv_loaded⟩, rfl, by decide, test_inv_failed⟩

theorem test_met_CauseFlagsDriveTheInterrupt :
    up.resetting = none ∧ up.irqOutN = true ∧
      (run (.causeEnWrite 0x80) { up with regs := { up.regs with cause := 0x80 } }).irqOutN = false := by
  decide +kernel

theorem test_met_RegistersChangeByTheirOwnWritesAlone :
    loaded.resetting = none ∧ Instr.frameBoundary.wellFormed = true ∧
      exec .frameBoundary loaded = .next (run .frameBoundary loaded) ∧
      (run .frameBoundary loaded).resetting = none := by
  refine ⟨rfl, rfl, rfl, ?_⟩
  decide +kernel

theorem test_met_AccessDoesWhatItsCommandDoes :
    up.resetting = none ∧ Access.command (.read 0x3B) = some .linkStatusRead ∧
      Access.command (.write 0x06 5) = some (.srcIndexWrite 5) ∧
      Access.command (.write 0xFF 5) = some (.registerWrite 0xFF 5) ∧
      (0x1B : Byte) &&& 0xFC#8 = 0x18#8 ∧ (0x2C : Byte) &&& 0xFC#8 = 0x2C#8 ∧
      (0x3C : Byte) &&& 0xFC#8 ≠ 0x38#8 ∧ (0x3C : Byte) &&& 0xFC#8 ≠ 0x40#8 := by decide

/-- A line source reads its line, inverted under LEVEL_LOW alone (R4). -/
theorem test_qualified_level_by_sense :
    ((loaded.qualified 0 = true ∧ loaded.qualified 3 = false) ∧
      (withSource 5 { levelSource with sense := .levelLow }).qualified 5 = true) ∧
    ((softLevel true .idle).qualified 32 = true ∧ (softLevel false .idle).qualified 32 = false) := by
  decide +kernel

theorem test_met_ReadsReturnTheStateAsItStands :
    up.notes.fifo = [] ∧ (loaded.notes.fifo = someNote :: [] ∧ loaded.BoundsLaw) ∧
      (full.notes.fifo = someNote :: List.replicate 3 someNote ∧ full.BoundsLaw) ∧
      (0x74 ≤ (0x74 : Byte).toNat ∧ (0x7F : Byte).toNat < 0x80) ∧ 0xA0 ≤ (0xA0 : Byte).toNat ∧
      ((0x3C : Byte) &&& 0xFC#8 ≠ 0x38#8 ∧ (0x3C : Byte) &&& 0xFC#8 ≠ 0x40#8) :=
  ⟨rfl, ⟨rfl, test_inv_loaded.bounds⟩, ⟨by decide +kernel, test_inv_full.bounds⟩, by decide⟩

theorem test_met_ItemsAreSentAsFrames :
    (Item.ack 5 ≠ .brk ∧ Item.sync ≠ .brk) ∧ State.reset.tx = none ∧
      ((syncing 0).tx = some .sync ∧ 10 < Item.sync.wire.length ∧ Item.sync.wire.length ≤ 11) := by
  decide +kernel

theorem test_met_CharactersOfAFrameAreItsCommand :
    (greeting.resetting = none ∧ greeting.session.link = .greeting ∧ greeting.receiver.assembly = none) ∧
    (up.resetting = none ∧ up.session.link = .active ∧ up.receiver.assembly = none) ∧
    (RxFrame.note 63 7 [1]).command.wellFormed = true ∧
    (RxFrame.note 0 7 (List.replicate 8 255)).command.wellFormed = true ∧
    (RxFrame.ack 5).command.wellFormed = true := by decide +kernel

theorem test_met_FourthSyncEntersGreeting :
    (∀ k ∈ [0, 2, 3], (syncing k).resetting = none ∧ (syncing k).session.link = .syncing ∧
      (syncing k).session.syncCount = k) ∧
    charValue (goodChar 0xD2) = some 0xD2#8 ∧ charValue (goodChar 0xA9) ≠ some 0xD2#8 ∧
    charValue { goodChar 0xD2 with stop := false } ≠ some 0xD2#8 := by decide +kernel

theorem test_met_FrameAssemblyTakesCharacters :
    State.reset.session.link = .disabled ∧ failed.session.link = .failed ∧
    (up.resetting = none ∧ up.session.link = .active ∧ up.receiver.assembly = none) ∧
    (greeting.session.link = .greeting ∧
      (assembling greeting Collecting.start).receiver.assembly = some Collecting.start ∧
      Collecting.start.received < 3 ∧ Collecting.start.len = none) ∧
    (charValue (goodChar 27) = some 27#8 ∧ charValue (goodChar 28) = some 28#8 ∧
      charValue { goodChar 3 with parity := true } = none) ∧
    (let a : Collecting := { received := 3, len := none, errorMark := false, bytes := [0x20, 5] }
     (assembling up a).receiver.assembly = some a ∧ a.received = 3) ∧
    (let a : Collecting := { received := 4, len := some 0, errorMark := false, bytes := [0x20, 5, 0] }
     4 ≤ a.received ∧ a.len = some 0 ∧ a.received + 1 < 6 + 0) ∧
    (let a : Collecting := { received := 5, len := some 0, errorMark := true, bytes := [0x20, 5, 0] }
     4 ≤ a.received ∧ a.len = some 0 ∧ a.received + 1 = 6 + 0 ∧ a.errorMark = true) ∧
    (let payload : List Byte := []
     (0x20#8 :: 5#8 :: 0#8 :: payload ++ [0#8]) = [0x20#8, 5#8, 0#8, 0#8] ∧
      payload.length = (0#8).toNat ∧ crc16 (0x20#8 :: 5#8 :: 0#8 :: payload) ≠ 0#8 ++ 0#8) ∧
    64 ≤ (0x40 : Byte).toNat ∧ ((0x51 : Byte).extractLsb' 4 4).toNat = 5 ∧
    ([1] : List Byte).length < 2 := by decide +kernel

theorem test_met_BadFramesAreCountedToLineErrors :
    up.receiver.assembly = none ∧
    ((assembling greeting Collecting.start).receiver.assembly ≠ none ∧
      (assembling greeting Collecting.start).session.link = .greeting) ∧
    ((assembling up Collecting.start).receiver.assembly ≠ none ∧
      (assembling up Collecting.start).session.link = .active ∧
      (assembling up Collecting.start).receiver.badRun + 1 < 8) ∧
    (noisy.resetting = none ∧ noisy.receiver.assembly ≠ none ∧ noisy.session.link = .active ∧
      noisy.receiver.badRun + 1 = 8 ∧ noisy.Inv) := by
  refine ⟨rfl, by decide +kernel, by decide +kernel, rfl, by decide +kernel, rfl, rfl, test_inv_noisy⟩

theorem test_met_BreakActsByLinkState :
    State.reset.session.link = .disabled ∧ failed.session.link = .failed ∧
      (syncing 3).session.link = .syncing ∧ greeting.session.link = .greeting ∧
      (loaded.resetting = none ∧ loaded.session.link = .active ∧ loaded.Inv) :=
  ⟨rfl, rfl, rfl, rfl, rfl, rfl, test_inv_loaded⟩

theorem test_met_HelloInGreetingRecordsOrStarts :
    greeting.resetting = none ∧ greeting.session.link = .greeting ∧
    (∀ w ∈ [1#8, 8#8], (2 : Byte) = 2 ∧ 1 ≤ w.toNat ∧ w.toNat ≤ 8) ∧
    (∀ w ∈ [0#8, 9#8], ¬(1 ≤ w.toNat ∧ w.toNat ≤ 8)) ∧ (3 : Byte) ≠ 2 ∧ (1 : Byte) ≠ 2 := by decide +kernel

theorem test_met_HelloInActiveIsComparedByEpoch :
    (loaded.resetting = none ∧ loaded.session.link = .active ∧ (40 : Byte) = loaded.session.peerEpoch) ∧
      ((41 : Byte) ≠ loaded.session.peerEpoch ∧ loaded.Inv) :=
  ⟨⟨rfl, rfl, rfl⟩, by decide +kernel, test_inv_loaded⟩

theorem test_met_GoodFramesOutsideASessionAreDiscarded :
    (State.reset.resetting = none ∧ State.reset.session.link = .disabled) ∧
      (syncing 0).session.link = .syncing ∧ failed.session.link = .failed ∧
      (greeting.session.link = .greeting ∧ (RxFrame.ack 5).command.wellFormed = true) := by decide +kernel

/-- FAILED with AUTO 0. -/
def stayingFailed : State := inLink { Session.reset with link := .failed, faultCause := .peerBreak }

theorem test_met_GreetingAndRestartTimersExpire :
    (greeting.resetting = none ∧ greeting.SessionLaw ∧ greeting.TxLaw ∧
      greeting.session.link = .greeting) ∧
    (up.resetting = none ∧ up.SessionLaw ∧ up.TxLaw ∧ up.session.link ≠ .greeting ∧
      up.session.link ≠ .failed) ∧
    (failed.resetting = none ∧ failed.SessionLaw ∧ failed.TxLaw ∧ failed.session.link = .failed ∧
      failed.regs.linkCfg.auto = true) ∧
    (stayingFailed.resetting = none ∧ stayingFailed.SessionLaw ∧ stayingFailed.TxLaw ∧
      stayingFailed.session.link = .failed ∧ stayingFailed.regs.linkCfg.auto = false) := by
  refine ⟨?_, ?_, ?_, ?_⟩ <;> decide +kernel

theorem test_met_AckRemovesTheNamedAndOlderRecords :
    loaded.resetting = none ∧ loaded.session.link = .active ∧ loaded.Inv ∧
      loaded.window.records.map (·.seq) = [62, 63, 0] ∧ (∀ r ∈ loaded.window.records, r.seq ≠ 1) ∧
      (∀ r ∈ up.window.records, r.seq ≠ 0) :=
  ⟨rfl, rfl, test_inv_loaded, rfl, by decide +kernel, by decide +kernel⟩

theorem test_met_NakResendsFromTheNamedRecord :
    (loaded.resetting = none ∧ loaded.session.link = .active ∧ loaded.Inv ∧
      loaded.window.records.map (·.seq) = [62, 63, 0] ∧
      loaded.window.retry < loaded.regs.linkCfg.retries.toNat) ∧
    (worn.resetting = none ∧ worn.session.link = .active ∧ worn.Inv ∧
      worn.window.records.map (·.seq) = [62, 63, 0] ∧
      worn.window.retry = worn.regs.linkCfg.retries.toNat) ∧
    (∀ r ∈ loaded.window.records, r.seq ≠ 61) :=
  ⟨⟨rfl, rfl, test_inv_loaded, rfl, by decide +kernel⟩, ⟨rfl, rfl, test_inv_worn, rfl, by decide +kernel⟩,
    by decide +kernel⟩

theorem test_met_AckTimerExpiryResendsFromTheOldest :
    (up.resetting = none ∧ up.Inv ∧ up.window.timer = none) ∧
    (loaded.Inv ∧ loaded.window.timer ≠ none ∧
      loaded.window.records.head?.map (·.seq) = some 62 ∧
      loaded.window.retry < loaded.regs.linkCfg.retries.toNat) ∧
    (worn.Inv ∧ worn.window.timer ≠ none ∧ worn.window.retry = worn.regs.linkCfg.retries.toNat) :=
  ⟨⟨rfl, test_inv_up, rfl⟩,
    ⟨test_inv_loaded, by decide +kernel, rfl, by decide +kernel⟩,
    test_inv_worn, by decide +kernel, by decide +kernel⟩

theorem test_met_SequenceClassDecidesTheFrame :
    (up.resetting = none ∧ up.session.link = .active ∧
      (RxFrame.complete 1 false 60).command.wellFormed = true) ∧
    (32 ≤ ((32 : SeqNum) - up.receiver.expected).toNat ∧ 32 ≤ ((63 : SeqNum) - up.receiver.expected).toNat) ∧
    (1 ≤ ((1 : SeqNum) - up.receiver.expected).toNat ∧ ((31 : SeqNum) - up.receiver.expected).toNat ≤ 31) ∧
    ((0 : SeqNum) = full.receiver.expected ∧ 4 ≤ full.notes.fifo.length ∧ 2 ≤ full.replies.length ∧
      full.resetting = none ∧ full.session.link = .active) := by decide +kernel

theorem test_met_CompletionReleasesTheMatchedEntries :
    loaded.resetting = none ∧ loaded.session.link = .active ∧ loaded.Inv ∧
    (loaded.delivered.filter (fun n => (loaded.src n).vector = 60) ≠ []) ∧
    (loaded.delivered.take 1 ≠ []) :=
  ⟨rfl, rfl, test_inv_loaded, by decide +kernel, by decide +kernel⟩

theorem test_met_UnmatchedCompletionIsRecorded :
    (loaded.resetting = none ∧ loaded.session.link = .active ∧
      ∀ n ∈ loaded.delivered, (loaded.src n).vector ≠ 61) ∧
    (up.session.link = .active ∧ up.delivered = []) ∧ (1 : Byte) ≠ 0 ∧ (255 : Byte) ≠ 0 := by
  decide +kernel

theorem test_met_NoteIsAppendedToTheFifo :
    (up.resetting = none ∧ up.session.link = .active ∧ 1 ≤ ([1] : List Byte).length ∧
      (List.replicate 8 (1 : Byte)).length ≤ 8 ∧ up.notes.fifo.length < 4) ∧
    (([] : List Byte).length = 0 ∧ 9 ≤ (List.replicate 9 (1 : Byte)).length ∧
      up.receiver.badRun + 1 < 8) := by decide +kernel

theorem test_met_ControlThatFailsACheckIsAnsweredAlone :
    (up.resetting = none ∧ up.session.link = .active ∧ up.replies.length < 2) ∧
    (¬((0 : Byte) = 1 ∨ (0 : Byte) = 2) ∧ (0 : Byte) ≠ 3) ∧ (4 : Byte) ≠ 3 ∧
    ((0 : Byte) ≠ 1 ∧ (2 : Byte) ≠ 1) ∧ 9 ≤ (9 : Byte).toNat ∧ 40 ≤ (40 : Byte).toNat ∧
    (1 : Byte) ≠ 0 ∧ 40 < (40 : Byte).toNat + (1 : Byte).toNat ∧
    ((8 : Byte).toNat ≤ 8 ∧ 40 < (33 : Byte).toNat + (8 : Byte).toNat) ∧
    ((39 : Byte).toNat = (39 : SourceId).val ∧ (up.src 39).remote = false) := by decide +kernel

theorem test_met_RemoteMaskIsTakenAndAnswered :
    let s := { up with sources := up.sources.set 39 { levelSource with remote := true } }
    s.resetting = none ∧ s.session.link = .active ∧ s.replies.length < 2 ∧
      (39 : Byte).toNat = (39 : SourceId).val ∧ (s.src 39).remote = true := by decide +kernel

theorem test_met_QueryCapturesARunOfSources :
    up.resetting = none ∧ up.session.link = .active ∧ up.replies.length < 2 ∧
      ((1 : Byte) ≠ 0 ∧ (39 : Byte).toNat + (1 : Byte).toNat ≤ 40) ∧
      ((8 : Byte).toNat ≤ 8 ∧ (32 : Byte).toNat + (8 : Byte).toNat ≤ 40) := by decide +kernel

theorem test_met_BoundaryOutsideASession :
    ((syncing 0).resetting = none ∧ (syncing 0).TxLaw ∧ (syncing 0).session.link = .syncing) ∧
      (greeting.TxLaw ∧ greeting.session.link = .greeting ∧ greeting.arbiter.helloDue = true) ∧
      (State.reset.TxLaw ∧ State.reset.session.link = .disabled) ∧
      (failed.TxLaw ∧ failed.session.link = .failed) := by decide +kernel

/-- A session just started, whose final HELLO is due. -/
def started : State := run (.hello true 2 4 40 2) greeting

/-- `loaded` with the item that `due` makes due. -/
def withDue (due : Arbiter → Arbiter) : State := { loaded with arbiter := due loaded.arbiter }

theorem test_inv_started : started.Inv := by constructor <;> decide +kernel
theorem test_inv_nakDue : (withDue fun a => { a with nakDue := some 3 }).Inv := by
  constructor <;> decide +kernel
theorem test_inv_ackDue : (withDue fun a => { a with ackDue := some 3 }).Inv := by
  constructor <;> decide +kernel
theorem test_inv_resend : (withDue fun a => { a with resend := some 0 }).Inv := by
  constructor <;> decide +kernel

theorem test_met_BoundarySendsDueItemsFirst :
    (started.resetting = none ∧ started.session.link = .active ∧ started.Inv ∧
      started.arbiter.finalHelloDue = true) ∧
    ((withDue fun a => { a with nakDue := some 3 }).Inv ∧ loaded.arbiter.finalHelloDue = false) ∧
    ((withDue fun a => { a with ackDue := some 3 }).Inv ∧ loaded.arbiter.nakDue = none) ∧
    ((withDue fun a => { a with resend := some 0 }).Inv ∧ loaded.arbiter.ackDue = none ∧
      loaded.window.records[2]?.map (·.seq) = some 0) :=
  ⟨⟨by decide +kernel, by decide +kernel, test_inv_started, by decide +kernel⟩, ⟨test_inv_nakDue, rfl⟩,
    ⟨test_inv_ackDue, rfl⟩, test_inv_resend, rfl, rfl⟩

/-- `loaded` without its reply. -/
def answered : State := { loaded with replies := [] }

/-- `answered` without its WAITING note. -/
def quiet : State :=
  { answered with notes := { answered.notes with
      slots := answered.notes.slots.set 1 .free, order := [] } }

/-- `answered` without its queued message. -/
def drained : State :=
  { answered with
    sources := answered.sources.set 2 { levelSource with state := .idle, mask := true },
    queue := Vector.replicate 4 [] }

/-- `answered` with the queued message in class 3. -/
def urgent : State :=
  { answered with
    sources := answered.sources.set 2 { levelSource with state := .queued, prio := 3 },
    queue := (Vector.replicate 4 []).set 3
      [{ levelSource with prio := 3 }.message 2 1 false false] }

/-- `loaded` with an agreed window of 3: no room. -/
def crowded : State := { loaded with session := { loaded.session with agreed := 3 } }

theorem test_inv_answered : answered.Inv := by constructor <;> decide +kernel
theorem test_inv_quiet : quiet.Inv := by constructor <;> decide +kernel
theorem test_inv_drained : drained.Inv := by constructor <;> decide +kernel
theorem test_inv_urgent : urgent.Inv := by constructor <;> decide +kernel
theorem test_inv_crowded : crowded.Inv := by constructor <;> decide +kernel
theorem test_inv_turned :
    { answered with arbiter := { answered.arbiter with turn := .event } }.Inv := by
  constructor <;> decide +kernel

theorem test_met_BoundaryGrantsOneNewFrame :
    (loaded.resetting = none ∧ loaded.session.link = .active ∧ loaded.Inv ∧
      loaded.arbiter = Arbiter.reset ∧ loaded.replies ≠ [] ∧
      loaded.window.records.length < loaded.session.agreed.toNat) ∧
    (crowded.Inv ∧ crowded.window.records.length = crowded.session.agreed.toNat) ∧
    (urgent.Inv ∧ urgent.replies = [] ∧ urgent.queue[3] ≠ []) ∧
    (up.Inv ∧ up.notes.order = [] ∧ up.queue.messages = []) ∧
    (drained.Inv ∧ drained.notes.order = [1] ∧ drained.notes.slots[1] = .waiting someNote ∧
      drained.queue.messages = []) ∧
    (answered.Inv ∧ answered.notes.order = [1] ∧ answered.queue.messages ≠ [] ∧
      answered.arbiter.turn = .note ∧ answered.queue[1] ≠ [] ∧
      ∀ d : Fin 4, 1 < d → answered.queue[d.val] = []) ∧
    (quiet.Inv ∧ quiet.notes.order = [] ∧ quiet.queue[1] ≠ []) ∧
    { answered with arbiter := { answered.arbiter with turn := .event } }.Inv :=
  ⟨⟨rfl, rfl, test_inv_loaded, by decide +kernel, by decide +kernel, by decide +kernel⟩,
    ⟨test_inv_crowded, by decide +kernel⟩, ⟨test_inv_urgent, by decide +kernel, by decide +kernel⟩,
    ⟨test_inv_up, by decide +kernel, by decide +kernel⟩,
    ⟨test_inv_drained, by decide +kernel, by decide +kernel, by decide +kernel⟩,
    ⟨test_inv_answered, by decide +kernel, by decide +kernel, by decide +kernel, by decide +kernel,
      by decide +kernel⟩,
    ⟨test_inv_quiet, by decide +kernel, by decide +kernel⟩, test_inv_turned⟩

theorem test_met_HoldoffExpiryReraisesTheSource :
    (loaded.resetting = none ∧ (loaded.src 0).holdoff = none) ∧
    ((loaded.src 4).holdoff ≠ none ∧ (loaded.src 4).sense.isLevel = false ∧ (loaded.src 4).pending = 0) ∧
    (let s := withSource 0 { edgeSource with state := .holdoff, holdoff := some 0, pending := 255 }
     (s.src 0).holdoff ≠ none ∧ (s.src 0).sense.isLevel = false ∧ (s.src 0).pending ≠ 0 ∧
      (s.src 0).mask = false) ∧
    (let s := withSource 0 { levelSource with state := .holdoff, hold := 1, holdoff := some 0 }
     (s.src 0).holdoff ≠ none ∧ (s.src 0).sense.isLevel = true) := by decide +kernel

theorem test_met_EveryStepKeepsBoundsAndLines :
    loaded.CfgLaw ∧ loaded.BoundsLaw ∧ loaded.LineLaw ∧ step loaded = .next loaded.tick :=
  ⟨test_inv_loaded.cfg, test_inv_loaded.bounds, test_inv_loaded.line, rfl⟩

theorem test_met_EveryStepKeepsTheLinkState :
    greeting.CfgLaw ∧ greeting.SessionLaw ∧ greeting.TxLaw ∧ greeting.AssemblyLaw ∧
      ∃ t, step { greeting with pending := [.greetTimeout] } = .next t :=
  ⟨test_inv_greeting.cfg, test_inv_greeting.session, test_inv_greeting.tx, test_inv_greeting.assembly, _, rfl⟩

theorem test_met_EveryStepKeepsTheWindow :
    loaded.CfgLaw ∧ loaded.SessionLaw ∧ loaded.WindowLaw ∧
      ∃ t, step { loaded with pending := [.ack 63] } = .next t :=
  ⟨test_inv_loaded.cfg, test_inv_loaded.session, test_inv_loaded.window, _, rfl⟩

theorem test_met_EveryStepKeepsTheLawsOfTheDevice :
    loaded.Inv ∧ ∃ t, step { loaded with pending := [.lineBreak] } = .next t :=
  ⟨test_inv_loaded, _, rfl⟩

end Sys2Proof.Tests
end

section
/-! PROOFS. The Line Sampler and the soft requests (spec/01): what an observed change, an expiry and a soft request
are, each as one equation. -/

namespace Sys2Proof.Machine

/-! ### Lines -/

namespace State

/-- Setting a line twice is setting it to the second value. -/
theorem setLine_setLine (s : State) (l : LineId) (x y : Line) :
    (s.setLine l x).setLine l y = s.setLine l y := by
  simp [setLine]

/-- An observed change with FILTER NONE is an acceptance (R2). -/
theorem observe_unfiltered (s : State) (l : LineId) (level : Bool) (ho : (s.line l).observed ≠ level)
    (hf : (s.src (lineSource l)).filter = .none) (ha : (s.line l).accepted ≠ level) :
    s.observe l level =
      (s.setLine l { pin := level, observed := level, accepted := level, interval := none }).reportAcceptance
        (lineSource l) level := by
  rw [observe, if_neg ho, if_pos hf, acceptLine_eq _ _ (by simpa using ha), setLine_setLine]
  simp

/-- An observed change with a filter starts the stability interval or stops it (R3). -/
theorem observe_filtered (s : State) (l : LineId) (level : Bool) (ho : (s.line l).observed ≠ level)
    (hf : (s.src (lineSource l)).filter ≠ .none) :
    s.observe l level = s.setLine l
      { pin := level, observed := level, accepted := (s.line l).accepted,
        interval := if level = (s.line l).accepted then none else some s.now } := by
  rw [observe, if_neg ho, if_neg hf]
  by_cases hl : level = (s.line l).accepted
  · rw [if_pos hl, if_pos hl, setLine_setLine, setLine_line_self]
  · rw [if_neg hl, if_neg hl, setLine_setLine, setLine_line_self, setLine_now]

/-- The expiry of a running interval, with the observed value away from the accepted one, is an acceptance
(R3). -/
theorem intervalExpiry_running (s : State) (l : LineId) (hi : (s.line l).interval ≠ none)
    (ha : (s.line l).observed ≠ (s.line l).accepted) :
    s.intervalExpiry l =
      (s.setLine l { s.line l with accepted := (s.line l).observed, interval := none }).reportAcceptance
        (lineSource l) (s.line l).observed := by
  rw [intervalExpiry, if_pos (Option.isSome_iff_ne_none.2 hi), acceptLine_eq _ _ ha.symm]

/-- A stopped interval does not expire (assumption log 3). -/
theorem intervalExpiry_stopped (s : State) (l : LineId) (hi : (s.line l).interval = none) :
    s.intervalExpiry l = s := by
  simp [intervalExpiry, hi]

end State

/-! ### The commands outside a reset -/

theorem exec_observedLineChange (s : State) (l : LineId) (level : Bool) (h : s.resetting = none) :
    exec (.observedLineChange l level) s = .next (s.observe l level) := by
  simp [exec, execObservedLineChange, State.inReset, h]

theorem exec_stabilityIntervalExpiry (s : State) (l : LineId) (h : s.resetting = none) :
    exec (.stabilityIntervalExpiry l) s = .next (s.intervalExpiry l) :=
  congrArg _ (s.unlessReset_none _ h)

theorem exec_softRaise (s : State) (v : Word) (h : s.resetting = none) :
    exec (.softRaise v) s = .next (s.softRaise v).ready :=
  congrArg _ (s.onBus_none _ (fun u => u.softRaise v) h)

theorem exec_softLower (s : State) (v : Word) (h : s.resetting = none) :
    exec (.softLower v) s = .next (s.softLower v).ready :=
  congrArg _ (s.onBus_none _ (fun u => u.softLower v) h)

/-- Settles O7: each clause is one case of `observe` or `intervalExpiry`, and the report that follows is
`reportAcceptance_outcome`. -/
theorem linesAreFilteredAndReportBySense : Obligations.LinesAreFilteredAndReportBySense := by
  intro s l hr set
  rw [exec_stabilityIntervalExpiry s l hr]
  refine ⟨fun level ho => ?_, fun hi ha => ?_, fun hi => ?_⟩
  · rw [exec_observedLineChange s l level hr]
    refine ⟨fun hf ha => ?_, fun hf => ?_⟩
    · rw [s.observe_unfiltered l level ho hf ha]
      exact State.reportAcceptance_outcome _ _ _
    · rw [s.observe_filtered l level ho hf]
      rfl
  · rw [s.intervalExpiry_running l hi ha]
    exact State.reportAcceptance_outcome _ _ _
  · rw [s.intervalExpiry_stopped l hi]

/-! ### Soft requests -/

namespace State

/-- A soft request below 32 is refused with NOT_SOFT (R11). -/
theorem softRequest_below (s : State) (r : Request) (v : Word) (take : SoftId → State) (h : v.toNat < 32) :
    s.softRequest r v take = s.refuse r (v.setWidth 16) .notSoft := by
  rw [softRequest, if_pos h, clampOperand, if_pos (by omega)]

/-- A soft request of 40 or more is refused with BAD_SOURCE (R11). -/
theorem softRequest_above (s : State) (r : Request) (v : Word) (take : SoftId → State) (h : 40 ≤ v.toNat) :
    s.softRequest r v take = s.refuse r (clampOperand v) .badSource := by
  rw [softRequest, if_neg (by omega), dif_neg (by omega)]

/-- A soft request of 32 to 39 is taken by its soft source (R11). -/
theorem softRequest_soft (s : State) (r : Request) (v : Word) (take : SoftId → State) (k : SoftId)
    (h : v.toNat = 32 + k.val) : s.softRequest r v take = take k := by
  rw [softRequest, if_neg (by omega), dif_pos (by omega)]
  congr 1
  ext
  simp [h]

end State

/-- Settles O8, by the three ranges of the value written. -/
theorem softRequestOutsideTheSoftSourcesIsRefused :
    Obligations.SoftRequestOutsideTheSoftSourcesIsRefused := by
  intro s v hr
  rw [exec_softRaise s v hr, exec_softLower s v hr, State.softRaise, State.softLower]
  refine ⟨fun h => ?_, fun h => ?_, fun k h => ?_, rfl, rfl⟩
  · rw [s.softRequest_below _ v _ h, s.softRequest_below _ v _ h]
    exact ⟨rfl, rfl⟩
  · rw [s.softRequest_above _ v _ h, s.softRequest_above _ v _ h]
    exact ⟨rfl, rfl⟩
  · rw [s.softRequest_soft _ v _ k h, s.softRequest_soft _ v _ k h]
    exact ⟨rfl, rfl⟩


namespace State

@[simp] theorem ready_src (s : State) (n : SourceId) : s.ready.src n = s.src n := rfl

/-- An edge event does not touch the local bus: the access may complete first. -/
theorem edgeEvent_ready (s : State) (n : SourceId) : (s.edgeEvent n).ready = s.ready.edgeEvent n := by
  have hcoalesce : (s.coalesce n).ready = s.ready.coalesce n := by
    have hm : s.ready.messageOf n = s.messageOf n := rfl
    unfold coalesce
    rw [hm]
    cases s.messageOf n with
    | none => rfl
    | some m => exact apply_ite State.ready _ _ _
  have hcount : (s.countPending n).ready = s.ready.countPending n := by
    unfold countPending
    by_cases hp : (s.src n).pending = 255
    · rw [if_pos hp, ready_src, if_pos hp]; rfl
    · rw [if_neg hp, ready_src, if_neg hp]; rfl
  unfold edgeEvent
  by_cases ha : ((s.src n).enable && !(s.src n).mask) = true
  · rw [if_pos ha, ready_src, if_pos ha]
    cases (s.src n).state with
    | idle => rfl
    | queued => exact hcoalesce
    | sent => exact hcount
    | holdoff => exact hcount
    | delivered => rfl
  · rw [if_neg ha, ready_src, if_neg ha]

/-- A level change does not touch the local bus: the access may complete first. -/
theorem levelChange_ready (s : State) (n : SourceId) (asserted : Bool) :
    (s.levelChange n asserted).ready = s.ready.levelChange n asserted := by
  unfold levelChange
  by_cases he : (s.src n).enable = true
  · rw [if_pos he, ready_src, if_pos he]
    cases (s.src n).state with
    | idle => exact apply_ite State.ready _ _ _
    | queued => exact apply_ite State.ready _ _ _
    | sent => rfl
    | delivered => rfl
    | holdoff => rfl
  · rw [if_neg he, ready_src, if_neg he]

end State

/-- A SOFT_RAISE of a soft source (R12). -/
theorem exec_softRaise_soft (s : State) (k : SoftId) (v : Word) (hr : s.resetting = none)
    (hv : v.toNat = 32 + k.val) : exec (.softRaise v) s = .next (s.raiseSoft k).ready := by
  rw [exec_softRaise s v hr, State.softRaise, s.softRequest_soft _ v _ k hv]

/-- A SOFT_LOWER of a soft source (R13). -/
theorem exec_softLower_soft (s : State) (k : SoftId) (v : Word) (hr : s.resetting = none)
    (hv : v.toNat = 32 + k.val) : exec (.softLower v) s = .next (s.lowerSoft k).ready := by
  rw [exec_softLower s v hr, State.softLower, s.softRequest_soft _ v _ k hv]

/-- Settles O9: the report and the completion of the access commute, so that the outcomes of the reports apply
to the state with the access complete. -/
theorem softRequestsActBySense : Obligations.SoftRequestsActBySense := by
  intro s k v hr hv n
  rw [exec_softRaise_soft s k v hr hv, exec_softLower_soft s k v hr hv]
  refine ⟨fun hs => ?rising, fun hs hb => ?raised, fun hs hb => ?lowered⟩
  case rising =>
    have hc : (s.src n).sense.isLevel = false := by rw [hs]; rfl
    rw [State.raiseSoft, State.lowerSoft, hc, if_neg Bool.false_ne_true, if_neg Bool.false_ne_true,
      State.edgeEvent_ready]
    exact ⟨State.edgeEvent_outcome _ _ hc, rfl⟩
  case raised =>
    have hc : (s.src n).sense.isLevel = true := by rw [hs]; rfl
    rw [State.raiseSoft, State.lowerSoft, if_pos hc, if_pos hc, hb, if_neg Bool.false_ne_true,
      if_neg Bool.false_ne_true, State.levelChange_ready]
    exact ⟨State.levelChange_outcome _ _ _ hc, rfl⟩
  case lowered =>
    have hc : (s.src n).sense.isLevel = true := by rw [hs]; rfl
    rw [State.raiseSoft, State.lowerSoft, if_pos hc, if_pos hc, if_pos hb, if_pos hb,
      State.levelChange_ready]
    exact ⟨rfl, State.levelChange_outcome _ _ _ hc⟩

end Sys2Proof.Machine
end

section
/-! PROOFS. What a read of a register returns (spec/11): the fields of each layout, the offsets of the map, and the
read that changes nothing. -/

namespace Sys2Proof.Machine

/-! ### Fields of a concatenation -/

/-- A field above the lowest part of a concatenation stands in the other parts. -/
theorem field_above {v w start len : Nat} {hi : BitVec v} {lo : BitVec w} {f : BitVec len}
    (hle : w ≤ start) (h : hi.extractLsb' (start - w) len = f) : (hi ++ lo).extractLsb' start len = f :=
  (BitVec.extractLsb'_append_eq_of_le hle).trans h

/-- The lowest part of a concatenation is its own field. -/
theorem field_lowest {v w : Nat} {hi : BitVec v} {lo : BitVec w} : (hi ++ lo).extractLsb' 0 w = lo :=
  BitVec.extractLsb'_append_eq_right

/-- A bit is the field of width 1 at its place. -/
theorem bit_of_field {n i : Nat} {x : BitVec n} {b : Bool} (h : x.extractLsb' i 1 = bit1 b) :
    x.getLsbD i = b := by
  have hbit := congrArg (·.getLsbD 0) h
  simpa [bit1] using hbit

/-- A field that holds a number which fits reads as that number. -/
theorem field_toNat {n start len k : Nat} {x : BitVec n} (h : x.extractLsb' start len = BitVec.ofNat len k)
    (hk : k < 2 ^ len) : (x.extractLsb' start len).toNat = k := by
  rw [h, BitVec.toNat_ofNat, Nat.mod_eq_of_lt hk]

/-- A narrow register in a wide word: its own bits, and nothing above them. -/
theorem setWidth_fields {n k : Nat} (x : BitVec n) :
    (x.setWidth (n + k)).extractLsb' n k = 0 ∧ (x.setWidth (n + k)).extractLsb' 0 n = x := by
  constructor
  · ext i hi
    simp
  · ext i hi
    simp [BitVec.getLsbD_eq_getElem hi]
    omega

/-! ### Register layouts -/

/-- SRC_CONFIG (section 11.3, R22). -/
theorem configWord_fields (e : Source) :
    e.configWord.extractLsb' 24 8 = e.hold ∧ e.configWord.extractLsb' 16 8 = e.vector ∧
    e.configWord.extractLsb' 12 4 = e.dest ∧ e.configWord.extractLsb' 10 2 = 0 ∧
    (e.configWord.extractLsb' 8 2).toNat = e.prio.val ∧ e.configWord.getLsbD 7 = false ∧
    e.configWord.getLsbD 6 = e.remote ∧ e.configWord.extractLsb' 4 2 = e.filter.code ∧
    e.configWord.extractLsb' 1 3 = e.sense.code ∧ e.configWord.getLsbD 0 = e.enable := by
  refine ⟨?top, ?_, ?_, ?_, field_toNat ?_ e.prio.isLt, bit_of_field ?_, bit_of_field ?_, ?_, ?_,
    bit_of_field ?_⟩
  all_goals repeat refine field_above (by decide) ?_
  case top => exact BitVec.extractLsb'_eq_self
  all_goals exact field_lowest

/-- SRC_STATUS (section 11.3, R22). -/
theorem statusWord_fields (s : State) (n : SourceId) :
    (s.statusWord n).extractLsb' 16 16 = 0 ∧ (s.statusWord n).extractLsb' 8 8 = (s.src n).pending ∧
    (s.statusWord n).getLsbD 7 = false ∧ (s.statusWord n).getLsbD 6 = (s.src n).pendOvr ∧
    (s.statusWord n).getLsbD 5 = s.qualified n ∧ (s.statusWord n).getLsbD 4 = (s.src n).enable ∧
    (s.statusWord n).getLsbD 3 = (s.src n).mask ∧
    (s.statusWord n).extractLsb' 0 3 = (s.src n).state.code := by
  refine ⟨?top, ?_, bit_of_field ?_, bit_of_field ?_, bit_of_field ?_, bit_of_field ?_, bit_of_field ?_, ?_⟩
  all_goals repeat refine field_above (by decide) ?_
  case top => exact BitVec.extractLsb'_eq_self
  all_goals exact field_lowest

/-- LINK_CFG (section 11.3, R182). -/
theorem linkCfgWord_fields (c : LinkCfg) :
    c.word.extractLsb' 21 11 = 0 ∧ c.word.getLsbD 20 = c.auto ∧ c.word.extractLsb' 16 4 = c.retries ∧
    c.word.extractLsb' 8 8 = c.tack ∧ c.word.extractLsb' 4 4 = c.window ∧ c.word.extractLsb' 2 2 = 0 ∧
    c.word.extractLsb' 0 2 = c.rate.code := by
  refine ⟨?top, bit_of_field ?_, ?_, ?_, ?_, ?_, ?_⟩
  all_goals repeat refine field_above (by decide) ?_
  case top => exact BitVec.extractLsb'_eq_self
  all_goals exact field_lowest

/-- LINK_EPOCHS (section 11.3, R183). -/
theorem linkEpochsWord_fields (s : State) :
    s.linkEpochsWord.extractLsb' 16 16 = 0 ∧ s.linkEpochsWord.extractLsb' 8 8 = s.regs.epochPeer ∧
    s.linkEpochsWord.extractLsb' 0 8 = s.regs.epochLocal := by
  refine ⟨?top, ?_, ?_⟩
  all_goals repeat refine field_above (by decide) ?_
  case top => exact BitVec.extractLsb'_eq_self
  all_goals exact field_lowest

/-- REFUSE_INFO (section 11.3, R181). -/
theorem refuseWord_fields (r : RefuseInfo) :
    r.word.extractLsb' 16 16 = r.operand ∧ r.word.extractLsb' 12 4 = 0 ∧
    r.word.extractLsb' 8 4 = r.reason.code ∧ r.word.extractLsb' 0 8 = r.request := by
  refine ⟨?top, ?_, ?_, ?_⟩
  all_goals repeat refine field_above (by decide) ?_
  case top => exact BitVec.extractLsb'_eq_self
  all_goals exact field_lowest

/-- UNMATCHED_INFO (section 11.3, R151). -/
theorem unmatchedWord_fields (u : UnmatchedInfo) :
    u.word.extractLsb' 14 18 = 0 ∧ u.word.extractLsb' 12 2 = u.reason.code ∧
    u.word.extractLsb' 9 3 = 0 ∧ u.word.getLsbD 8 = u.oldest ∧ u.word.extractLsb' 0 8 = u.vector := by
  refine ⟨?top, ?_, ?_, bit_of_field ?_, ?_⟩
  all_goals repeat refine field_above (by decide) ?_
  case top => exact BitVec.extractLsb'_eq_self
  all_goals exact field_lowest

/-- REMOTE_INFO (section 11.3, R172). -/
theorem remoteWord_fields (r : RemoteInfo) :
    r.word.extractLsb' 10 22 = 0 ∧ r.word.extractLsb' 8 2 = r.op.code ∧
    r.word.extractLsb' 6 2 = 0 ∧ (r.word.extractLsb' 0 6).toNat = r.source.val := by
  refine ⟨?top, ?_, ?_, field_toNat ?_ (by omega)⟩
  all_goals repeat refine field_above (by decide) ?_
  case top => exact BitVec.extractLsb'_eq_self
  all_goals exact field_lowest

/-! ### Masks -/

/-- A word built by setting the bits of the chosen numbers has those bits and the ones it began with. -/
theorem getLsbD_foldl_setBit {k : Nat} (chosen : Fin k → Bool) (ns : List (Fin k)) (w : Word) (i : Nat)
    (hi : i < 32) :
    (ns.foldl (fun w n => if chosen n then w ||| (1#32 <<< n.val) else w) w).getLsbD i =
      (w.getLsbD i || ns.any fun n => chosen n && decide (n.val = i)) := by
  induction ns generalizing w with
  | nil => simp
  | cons n ns ih =>
    have hbit : (1#32 <<< n.val).getLsbD i = decide (n.val = i) := by
      simp only [BitVec.getLsbD_shiftLeft, BitVec.getLsbD_one]
      by_cases h : n.val = i
      · simp [h, hi]
      · simp [h]
        omega
    rw [List.foldl_cons, ih, List.any_cons]
    cases chosen n <;> simp [hbit, Bool.or_assoc]

/-- MASK_LO and MASK_HI have at each bit the MASK of its source, and nothing above (R33). -/
theorem getLsbD_maskWord {k : Nat} (chosen : Fin k → Bool) (i : Nat) (hi : i < 32) :
    ((List.finRange k).foldl (fun w n => if chosen n then w ||| (1#32 <<< n.val) else w) 0).getLsbD i =
      if h : i < k then chosen ⟨i, h⟩ else false := by
  have hzero : (0 : Word).getLsbD i = false := BitVec.getLsbD_zero
  rw [getLsbD_foldl_setBit chosen _ _ i hi, hzero, Bool.false_or]
  by_cases h : i < k
  · rw [dif_pos h, Bool.eq_iff_iff, List.any_eq_true]
    simp only [List.mem_finRange, true_and, Bool.and_eq_true, decide_eq_true_eq]
    exact ⟨fun ⟨n, hc, hn⟩ => by subst hn; exact hc, fun hc => ⟨⟨i, h⟩, hc, rfl⟩⟩
  · rw [dif_neg h, List.any_eq_false]
    rintro n - hn
    simp only [Bool.and_eq_true, decide_eq_true_eq] at hn
    omega

/-- MASK_LO (R33). -/
theorem maskLoWord_bit (s : State) (l : LineId) :
    s.maskLoWord.getLsbD l.val = (s.src (lineSource l)).mask := by
  rw [State.maskLoWord, getLsbD_maskWord (fun l => (s.src (lineSource l)).mask) _ l.isLt, dif_pos l.isLt]

/-- MASK_HI (R33). -/
theorem maskHiWord_bit (s : State) (k : SoftId) :
    s.maskHiWord.getLsbD k.val = (s.src (softSource k)).mask := by
  rw [State.maskHiWord, getLsbD_maskWord (fun k => (s.src (softSource k)).mask) _ (by omega), dif_pos k.isLt]

theorem maskHiWord_unused (s : State) : s.maskHiWord.extractLsb' 8 24 = 0 := by
  ext i hi
  have h : ¬ 8 + i < 8 := by omega
  rw [BitVec.getElem_extractLsb', State.maskHiWord,
    getLsbD_maskWord (fun k => (s.src (softSource k)).mask) _ (by omega), dif_neg h]
  simp

/-! ### Notes -/

/-- Whether a slot is FREE. -/
def Slot.isFree : Slot → Bool
  | .free => true
  | .waiting _ => false
  | .inFlight _ => false

theorem Slot.decide_eq_free : (fun x : Slot => decide (x = .free)) = Slot.isFree := by
  funext x
  cases x <;> rfl

/-- Counting the slots of a kind is listing their numbers (R159). -/
theorem countSlots_eq (u : NoteUnit) (p : Slot → Bool) :
    u.countSlots p = ((List.finRange 4).filter fun k : SlotId => p u.slots[k.val]).length := by
  have hslots : u.slots.toList = (List.finRange 4).map fun k : SlotId => u.slots[k.val] := by
    apply List.ext_getElem
    · simp
    · simp
  rw [NoteUnit.countSlots, hslots, List.countP_map, List.countP_eq_length_filter]
  rfl

/-- Every slot is in one of the three states. -/
theorem slots_partition (l : List Slot) :
    l.countP Slot.isFree + l.countP Slot.isWaiting + l.countP Slot.isInFlight = l.length := by
  induction l with
  | nil => rfl
  | cons x l ih => cases x <;> simp [List.countP_cons, Slot.isFree, Slot.isWaiting, Slot.isInFlight] <;> omega

theorem countSlots_total (u : NoteUnit) :
    u.countSlots Slot.isFree + u.countSlots Slot.isWaiting + u.countSlots Slot.isInFlight = 4 := by
  rw [NoteUnit.countSlots, NoteUnit.countSlots, NoteUnit.countSlots, slots_partition]
  simp

/-- NOTE_OUT_CTRL (section 11.3, R159). -/
theorem ctrlWord_fields (u : NoteUnit) :
    (u.ctrlWord.extractLsb' 27 5 = 0 ∧
      (u.ctrlWord.extractLsb' 24 3).toNat = u.countSlots Slot.isInFlight ∧
      u.ctrlWord.getLsbD 23 = false ∧ (u.ctrlWord.extractLsb' 20 3).toNat = u.countSlots Slot.isWaiting ∧
      u.ctrlWord.getLsbD 19 = false ∧ (u.ctrlWord.extractLsb' 16 3).toNat = u.countSlots Slot.isFree ∧
      u.countSlots Slot.isFree + u.countSlots Slot.isWaiting + u.countSlots Slot.isInFlight = 4) ∧
    u.ctrlWord.extractLsb' 12 4 = 0 ∧ u.ctrlWord.extractLsb' 8 4 = u.outLength ∧
    u.ctrlWord.extractLsb' 0 8 = u.outTag := by
  have htotal := countSlots_total u
  have hfits {k : Nat} (hk : k ≤ 4) : k < 2 ^ 3 := by omega
  rw [← Slot.decide_eq_free] at htotal ⊢
  refine ⟨⟨?top, field_toNat ?_ (hfits (by omega)), bit_of_field ?_, field_toNat ?_ (hfits (by omega)),
    bit_of_field ?_, field_toNat ?_ (hfits (by omega)), htotal⟩, ?_, ?_, ?_⟩
  all_goals repeat refine field_above (by decide) ?_
  case top => exact BitVec.extractLsb'_eq_self
  all_goals exact field_lowest

/-- NOTE_IN_HEAD with a record at the head (section 11.3, R167). -/
theorem headWord_fields (u : NoteUnit) (x : Note) (rest : List Note) (hf : u.fifo = x :: rest)
    (hcount : u.fifo.length ≤ Config.fifoSize) (hlen : x.data.length ≤ 8) :
    u.headWord.extractLsb' 19 13 = 0 ∧ (u.headWord.extractLsb' 16 3).toNat = u.fifo.length ∧
    u.headWord.extractLsb' 12 4 = 0 ∧ (u.headWord.extractLsb' 8 4).toNat = x.data.length ∧
    u.headWord.extractLsb' 0 8 = x.tag := by
  have hword : u.headWord = (0 : BitVec 13) ++ BitVec.ofNat 3 u.fifo.length ++ (0 : BitVec 4) ++
      BitVec.ofNat 4 x.data.length ++ x.tag := by simp only [NoteUnit.headWord, hf]
  have hcount3 : u.fifo.length < 2 ^ 3 := Nat.lt_of_le_of_lt hcount (by decide)
  have hlen4 : x.data.length < 2 ^ 4 := Nat.lt_of_le_of_lt hlen (by decide)
  rw [hword]
  refine ⟨?top, field_toNat ?_ hcount3, ?_, field_toNat ?_ hlen4, ?_⟩
  all_goals repeat refine field_above (by decide) ?_
  case top => exact BitVec.extractLsb'_eq_self
  all_goals exact field_lowest

/-- The four bytes of a data word (R167). -/
theorem dataWord_bytes (bytes : List Byte) (i : Fin 4) :
    (dataWord bytes).extractLsb' (8 * i.val) 8 = bytes.getD i.val 0 := by
  match i with
  | 0 => exact field_lowest
  | 1 => exact field_above (by decide) field_lowest
  | 2 => exact field_above (by decide) (field_above (by decide) field_lowest)
  | 3 =>
    exact field_above (by decide) (field_above (by decide) (field_above (by decide) BitVec.extractLsb'_eq_self))

/-- NOTE_IN_DATA0 and NOTE_IN_DATA1 with a record at the head (R167). -/
theorem inData_bytes (u : NoteUnit) (x : Note) (rest : List Note) (hf : u.fifo = x :: rest) (i : Fin 4) :
    (u.inData false).extractLsb' (8 * i.val) 8 = x.data.getD i.val 0 ∧
    (u.inData true).extractLsb' (8 * i.val) 8 = x.data.getD (4 + i.val) 0 := by
  have hlow : u.inData false = dataWord x.data := by simp [NoteUnit.inData, hf]
  have hhigh : u.inData true = dataWord (x.data.drop 4) := by simp [NoteUnit.inData, hf]
  rw [hlow, hhigh, dataWord_bytes, dataWord_bytes]
  refine ⟨rfl, ?_⟩
  rw [List.getD_eq_getElem?_getD, List.getD_eq_getElem?_getD, List.getElem?_drop]

/-- An empty FIFO reads 0 (R167). -/
theorem noteIn_empty (u : NoteUnit) (hf : u.fifo = []) :
    u.headWord = 0 ∧ u.inData false = 0 ∧ u.inData true = 0 := by
  simp [NoteUnit.headWord, NoteUnit.inData, hf]

/-! ### Offsets -/

/-- A byte address names its register by its offset in words (R178). -/
theorem offset_toNat (a : Byte) : (a.extractLsb' 2 6).toNat = a.toNat / 4 := by
  rw [BitVec.extractLsb'_toNat, Nat.shiftRight_eq_div_pow]
  omega

theorem ofAddr_undefined (a : Byte) (h : (0x74 ≤ a.toNat ∧ a.toNat < 0x80) ∨ 0xA0 ≤ a.toNat) :
    Register.ofAddr a = .undefined := by
  have hoff := offset_toNat a
  unfold Register.ofAddr
  split
  case h_38 => rfl
  all_goals omega

/-- An address with bits 1 and 0 cleared. -/
theorem aligned_eq (a : Byte) : a &&& 0xFC#8 = a.extractLsb' 2 6 ++ 0#2 := by
  revert a
  decide

/-- Bits 1 and 0 of an address are ignored (R178). -/
theorem ofAddr_aligned (a : Byte) : Register.ofAddr (a &&& 0xFC#8) = Register.ofAddr a := by
  have h : (a &&& 0xFC#8).extractLsb' 2 6 = a.extractLsb' 2 6 := by
    rw [aligned_eq]
    exact BitVec.extractLsb'_append_eq_left
  rw [Register.ofAddr, h, Register.ofAddr]

theorem offset_of_linkStatus (a : Byte) (h : Register.ofAddr a = .linkStatus) : a &&& 0xFC#8 = 0x38#8 := by
  unfold Register.ofAddr at h
  split at h
  case h_15 hoff =>
    rw [aligned_eq, show a.extractLsb' 2 6 = 0x0E#6 from BitVec.eq_of_toNat_eq hoff]
    rfl
  all_goals cases h

theorem offset_of_linkFault (a : Byte) (h : Register.ofAddr a = .linkFault) : a &&& 0xFC#8 = 0x40#8 := by
  unfold Register.ofAddr at h
  split at h
  case h_17 hoff =>
    rw [aligned_eq, show a.extractLsb' 2 6 = 0x10#6 from BitVec.eq_of_toNat_eq hoff]
    rfl
  all_goals cases h

/-- A read other than of LINK_STATUS and LINK_FAULT changes nothing (R178). -/
theorem afterRead_eq_self (s : State) (r : Register) (hstatus : r ≠ .linkStatus) (hfault : r ≠ .linkFault) :
    s.afterRead r = s := by
  unfold State.afterRead
  split
  · exact absurd rfl hstatus
  · exact absurd rfl hfault
  · rfl

theorem takeAccess_read (s : State) (a : Byte) (hstatus : Register.ofAddr a ≠ .linkStatus)
    (hfault : Register.ofAddr a ≠ .linkFault) :
    s.takeAccess (.read a) =
      { s with bus := { s.bus with readData := s.readRegister (Register.ofAddr a) } } := by
  rw [State.takeAccess, State.takeRead, afterRead_eq_self s _ hstatus hfault]
  rfl

/-! ### What a read returns, by the parts of the map -/

/-- SRC_INDEX (R21). -/
theorem srcIndex_read (s : State) : (s.readRegister .srcIndex).toNat = s.regs.srcIndex.val := by
  rw [State.readRegister, BitVec.toNat_ofNat, Nat.mod_eq_of_lt (by omega)]

/-- The inbound notes. -/
theorem reads_noteIn (s : State) :
    (s.notes.fifo = [] → s.notes.headWord = 0 ∧ s.notes.inData false = 0 ∧ s.notes.inData true = 0) ∧
    (∀ x rest, s.notes.fifo = x :: rest → s.BoundsLaw →
      s.notes.headWord.extractLsb' 19 13 = 0 ∧
      (s.notes.headWord.extractLsb' 16 3).toNat = s.notes.fifo.length ∧
      s.notes.headWord.extractLsb' 12 4 = 0 ∧
      (s.notes.headWord.extractLsb' 8 4).toNat = x.data.length ∧
      s.notes.headWord.extractLsb' 0 8 = x.tag ∧
      ∀ i : Fin 4, (s.notes.inData false).extractLsb' (8 * i.val) 8 = x.data.getD i.val 0 ∧
        (s.notes.inData true).extractLsb' (8 * i.val) 8 = x.data.getD (4 + i.val) 0) := by
  refine ⟨noteIn_empty s.notes, fun x rest hf ⟨hcount, _, hdata, _⟩ => ?_⟩
  have hx : x ∈ s.notes.fifo := by rw [hf]; exact List.mem_cons_self
  obtain ⟨hunused, hlength, hgap, hsize, htag⟩ := headWord_fields s.notes x rest hf hcount (hdata x hx).2
  exact ⟨hunused, hlength, hgap, hsize, htag, inData_bytes s.notes x rest hf⟩

/-- A write-action register reads 0 (R178). -/
theorem writeAction_reads_zero (s : State) :
    ∀ a ∈ ([0x18, 0x1C, 0x20, 0x24, 0x28, 0x2C, 0x30] : List Byte),
      s.readRegister (Register.ofAddr a) = 0 := by
  intro a ha
  simp only [List.mem_cons, List.not_mem_nil, or_false] at ha
  rcases ha with rfl | rfl | rfl | rfl | rfl | rfl | rfl <;> rfl

/-- Settles O28: register by register, from the layouts above. -/
theorem readsReturnTheStateAsItStands : Obligations.ReadsReturnTheStateAsItStands := by
  intro s rd n
  obtain ⟨hold, vector, dest, configGap, prio, configBit7, remote, filter, sense, configEnable⟩ :=
    configWord_fields (s.src n)
  obtain ⟨statusTop, pending, statusBit7, pendOvr, level, statusEnable, mask, state⟩ :=
    statusWord_fields s n
  obtain ⟨cfgTop, auto, retries, tack, window, cfgGap, rate⟩ := linkCfgWord_fields s.regs.linkCfg
  obtain ⟨epochTop, epochPeer, epochLocal⟩ := linkEpochsWord_fields s
  obtain ⟨slotCounts, ctrlGap, outLength, outTag⟩ := ctrlWord_fields s.notes
  obtain ⟨noteInEmpty, noteInHead⟩ := reads_noteIn s
  obtain ⟨causeTop, cause⟩ := setWidth_fields (k := 24) s.regs.cause
  obtain ⟨causeEnTop, causeEn⟩ := setWidth_fields (k := 24) s.regs.causeEn
  obtain ⟨operand, refuseGap, refuseReason, request⟩ := refuseWord_fields s.regs.refuse
  obtain ⟨unmatchedTop, unmatchedReason, unmatchedGap, oldest, unmatchedVector⟩ :=
    unmatchedWord_fields s.regs.unmatched
  obtain ⟨remoteTop, remoteOp, remoteGap, remoteSource⟩ := remoteWord_fields s.regs.remote
  obtain ⟨resetTop, resetCause⟩ := setWidth_fields (k := 30) s.regs.resetCause.code
  refine ⟨rfl, srcIndex_read s,
    hold, vector, dest, configGap, prio, configBit7, remote, filter, sense, configEnable,
    statusTop, pending, statusBit7, pendOvr, level, statusEnable, mask, state,
    s.qualified_line, s.qualified_soft, rfl, fun _ => rfl, fun _ => rfl,
    maskLoWord_bit s, maskHiWord_bit s, maskHiWord_unused s,
    cfgTop, auto, retries, tack, window, cfgGap, rate, epochTop, epochPeer, epochLocal,
    ?counts, ctrlGap, outLength, outTag, rfl, rfl, noteInEmpty, noteInHead,
    causeTop, cause, causeEnTop, causeEn, operand, refuseGap, refuseReason, request,
    unmatchedTop, unmatchedReason, unmatchedGap, oldest, unmatchedVector,
    remoteTop, remoteOp, remoteGap, remoteSource, resetTop, resetCause,
    rfl, rfl, rfl, rfl, rfl, rfl, rfl, rfl,
    writeAction_reads_zero s, fun a ha => congrArg s.readRegister (ofAddr_undefined a ha),
    fun a => congrArg s.readRegister (ofAddr_aligned a).symm,
    fun a hstatus hfault => takeAccess_read s a (fun h => hstatus (offset_of_linkStatus a h))
      fun h => hfault (offset_of_linkFault a h),
    rfl, rfl, rfl, rfl, rfl, rfl, rfl, rfl, rfl, rfl⟩
  case counts =>
    intro slots free waiting flying
    have hfree : s.notes.countSlots Slot.isFree = free := by
      rw [countSlots_eq]
      exact congrArg List.length (List.filter_congr fun k _ => by cases s.notes.slots[k.val] <;> rfl)
    have hwaiting : s.notes.countSlots Slot.isWaiting = waiting := by
      rw [countSlots_eq]
      exact congrArg List.length (List.filter_congr fun k _ => by cases s.notes.slots[k.val] <;> rfl)
    have hflying : s.notes.countSlots Slot.isInFlight = flying := by
      rw [countSlots_eq]
      exact congrArg List.length (List.filter_congr fun k _ => by cases s.notes.slots[k.val] <;> rfl)
    rw [hfree, hwaiting, hflying] at slotCounts
    exact slotCounts

end Sys2Proof.Machine
end

section
/-! PROOFS. An access of the local bus and its command (R178, R180), and the end of a device reset (R9, R188). -/

namespace Sys2Proof.Machine

/-- A command issued by its code and operand does what a CMD write of them does (R180). -/
theorem exec_commandOfCode (s : State) (code operand : Byte) (h : s.resetting = none) :
    exec (commandOfCode code operand) s = .next (s.command code operand).ready := by
  unfold commandOfCode
  split <;> simp only [exec, execForceIdle, execTableClear, execNoteSend, execNotePop, execNoteFlush,
    execLinkEnable, execLinkDisable, execLinkRestart, execStatsClear, execDeviceReset,
    execUnknownCommand, s.onBus_none _ _ h, State.command, *]

/-- The command that a write is does, outside a reset, what the write does when it is taken (R178). -/
theorem exec_commandOfWrite (s : State) (addr : Byte) (value : Word) (h : s.resetting = none) :
    exec (commandOfWrite addr value) s = .next (s.takeWrite value (Register.ofAddr addr)).ready := by
  unfold commandOfWrite
  cases hr : Register.ofAddr addr
  case cmd => exact exec_commandOfCode s _ _ h
  all_goals
    simp only [exec, execSrcIndexWrite, execSrcConfigWrite, execMaskSetLo, execMaskSetHi, execMaskClrLo,
      execMaskClrHi, execSoftRaise, execSoftLower, execLinkCfgWrite, execCauseWrite, execCauseEnWrite,
      execRegisterWrite, s.onBus_none _ _ h, State.takeWrite, hr]

/-- The command that an access is does, outside a reset, what the access does when it is taken (R178). -/
theorem exec_access_command (s : State) (a : Access) (c : Instr) (h : s.resetting = none)
    (hc : a.command = some c) : exec c s = .next (s.takeAccess a).ready := by
  cases a with
  | write addr value =>
    obtain rfl : commandOfWrite addr value = c := by simpa [Access.command] using hc
    exact exec_commandOfWrite s addr value h
  | read addr =>
    cases hr : Register.ofAddr addr
    case linkStatus =>
      obtain rfl : Instr.linkStatusRead = c := by simpa [Access.command, hr] using hc
      rw [State.takeAccess, hr]
      exact congrArg _ (s.onBus_none _ (fun u => u.takeRead .linkStatus) h)
    case linkFault =>
      obtain rfl : Instr.linkFaultRead = c := by simpa [Access.command, hr] using hc
      rw [State.takeAccess, hr]
      exact congrArg _ (s.onBus_none _ (fun u => u.takeRead .linkFault) h)
    all_goals simp [Access.command, hr] at hc

/-- A read that is no command leaves its data alone (R178). -/
theorem takeAccess_read_of_command_none (s : State) (addr : Byte)
    (h : Access.command (.read addr) = none) :
    s.takeAccess (.read addr) =
      { s with bus := { s.bus with readData := s.readRegister (Register.ofAddr addr) } } :=
  takeAccess_read s addr (fun hr => by simp [Access.command, hr] at h) fun hr => by
    simp [Access.command, hr] at h

/-- The state in which a reset of that cause leaves the device, before the accesses that waited are taken
(R9, R188 to R190). -/
def State.started (s : State) (cause : ResetCause) : State :=
  { State.reset with
    pending := s.pending, now := s.now, freeCount := s.freeCount,
    bus := { s.bus with waiting := [] }, regs := Registers.reset cause,
    lines := s.lines.map fun l => Line.reset l.pin }

/-- The end of a reset under the law of resets: the device starts, and the accesses that waited are taken
(R188, R190). -/
theorem endReset_of_resetLaw (s : State) (cause : ResetCause) (hc : s.resetting = some cause)
    (hl : s.ResetLaw) : s.endReset = (s.started cause).serveWaiting s.bus.waiting := by
  have hblocks := hl.2 cause hc
  obtain ⟨pending, now, freeCount, resetting, bus, lines, softLevels, sources, queue, delivered, arbiter, tx,
    window, receiver, session, notes, replies, regs⟩ := s
  simp only [State.mk.injEq] at hblocks
  simp only at hc
  obtain ⟨-, -, -, rfl, -, -, rfl, rfl, rfl, rfl, rfl, rfl, rfl, rfl, rfl, rfl, rfl, rfl⟩ := hblocks
  rfl

/-- One access alone that waited is taken whole and completes. -/
theorem serveWaiting_singleton (s : State) (a : Access) (h : s.resetting = none) :
    s.serveWaiting [a] = (s.takeAccess a).ready :=
  s.onBus_none a (fun u => u.takeAccess a) h

/-- Settles O5: the end of a reset is the start of the device followed by the accesses that waited. -/
theorem resetEndStartsTheDevice : Obligations.ResetEndStartsTheDevice := by
  refine fun s => ⟨fun h => ?_, fun cause hc hl => ?_⟩
  · simp only [exec, execResetEnd, State.endReset, h]
  · have hend : exec .resetEnd s = .next ((s.started cause).serveWaiting s.bus.waiting) :=
      congrArg _ (endReset_of_resetLaw s cause hc hl)
    have hstart : (s.started cause).resetting = none := rfl
    refine ⟨fun hw => ?_, fun a c hw ha => ?_, fun addr hw ha => ?_⟩
    · rw [hend, hw]; rfl
    · rw [hend, hw, serveWaiting_singleton _ a hstart]
      exact (exec_access_command _ a c hstart ha).symm
    · rw [hend, hw, serveWaiting_singleton _ _ hstart, takeAccess_read_of_command_none _ addr ha]
      rfl

end Sys2Proof.Machine
end

section
/-! PROOFS. What every step keeps of LINK_CFG, of the bounds of the inbound FIFO and the Reply Queue, and of the
lines. `Steady` says that an operation leaves them alone but for records that leave; `KeepsLaws` says that it
keeps the three laws, and is proved for itself where an operation does more. -/

namespace Sys2Proof.Machine

/-- From s to t, LINK_CFG, the lines, their filters and the reset in progress stand, and the FIFO and the
Reply Queue have at most lost records at the head. -/
structure Steady (s t : State) : Prop where
  linkCfg : t.regs.linkCfg = s.regs.linkCfg
  fifo : t.notes.fifo <:+ s.notes.fifo
  replies : t.replies <:+ s.replies
  lines : t.lines = s.lines
  filters : ∀ l : LineId, (t.src (lineSource l)).filter = (s.src (lineSource l)).filter
  resetting : t.resetting = s.resetting

namespace Steady

variable {s t u : State}

/-- Operations on the other blocks. -/
theorem elsewhere (hcfg : t.regs.linkCfg = s.regs.linkCfg := by rfl)
    (hfifo : t.notes.fifo = s.notes.fifo := by rfl) (hreplies : t.replies = s.replies := by rfl)
    (hlines : t.lines = s.lines := by rfl) (hsources : t.sources = s.sources := by rfl)
    (hresetting : t.resetting = s.resetting := by rfl) : Steady s t :=
  ⟨hcfg, by rw [hfifo], by rw [hreplies], hlines, fun l => by rw [State.src, State.src, hsources], hresetting⟩

theorem refl (s : State) : Steady s s := elsewhere

theorem trans (h : Steady s t) (k : Steady t u) : Steady s u :=
  ⟨k.linkCfg.trans h.linkCfg, k.fifo.trans h.fifo, k.replies.trans h.replies, k.lines.trans h.lines,
    fun l => (k.filters l).trans (h.filters l), k.resetting.trans h.resetting⟩

theorem ite {c : Prop} [Decidable c] (ht : Steady s t) (hu : Steady s u) :
    Steady s (if c then t else u) := by
  split
  · exact ht
  · exact hu

theorem foldl {α : Type} {f : State → α → State} (h : ∀ t a, Steady t (f t a)) (as : List α) (s : State) :
    Steady s (as.foldl f s) := by
  induction as generalizing s with
  | nil => exact refl s
  | cons a as ih => exact (h s a).trans (ih (f s a))

/-! ### The named updates -/

theorem setBus (s : State) (v : Bus) : Steady s (s.setBus v) := elsewhere
theorem setPending (s : State) (v : List Instr) : Steady s (s.setPending v) := elsewhere
theorem setNow (s : State) (v : Nat) : Steady s (s.setNow v) := elsewhere
theorem setFreeCount (s : State) (v : Nat) : Steady s (s.setFreeCount v) := elsewhere
theorem setSoftLevel (s : State) (k : SoftId) (v : Bool) : Steady s (s.setSoftLevel k v) := elsewhere
theorem setQueue (s : State) (v : EventQueue) : Steady s (s.setQueue v) := elsewhere
theorem setDelivered (s : State) (v : List SourceId) : Steady s (s.setDelivered v) := elsewhere
theorem setArbiter (s : State) (v : Arbiter) : Steady s (s.setArbiter v) := elsewhere
theorem setTx (s : State) (v : Option Item) : Steady s (s.setTx v) := elsewhere
theorem setWindow (s : State) (v : Window) : Steady s (s.setWindow v) := elsewhere
theorem setReceiver (s : State) (v : Receiver) : Steady s (s.setReceiver v) := elsewhere
theorem setSession (s : State) (v : Session) : Steady s (s.setSession v) := elsewhere

theorem setRegs (s : State) (v : Registers) (h : v.linkCfg = s.regs.linkCfg := by rfl) :
    Steady s (s.setRegs v) := elsewhere (hcfg := h)

theorem setNotes (s : State) (v : NoteUnit) (h : v.fifo <:+ s.notes.fifo := by exact List.suffix_rfl) :
    Steady s (s.setNotes v) :=
  ⟨rfl, h, List.suffix_rfl, rfl, fun _ => rfl, rfl⟩

theorem setReplies (s : State) (v : List Reply) (h : v <:+ s.replies) : Steady s (s.setReplies v) :=
  ⟨rfl, List.suffix_rfl, h, rfl, fun _ => rfl, rfl⟩

theorem setSrc (s : State) (n : SourceId) (v : Source) (h : v.filter = (s.src n).filter := by rfl) :
    Steady s (s.setSrc n v) := by
  refine ⟨rfl, List.suffix_rfl, List.suffix_rfl, rfl, fun l => ?_, rfl⟩
  rw [State.setSrc_src]
  split
  next hl => rw [h, hl]
  next => rfl

theorem setSources_map (s : State) (f : Source → Source) (h : ∀ e, (f e).filter = e.filter) :
    Steady s (s.setSources (s.sources.map f)) := by
  refine ⟨rfl, List.suffix_rfl, List.suffix_rfl, rfl, fun l => ?_, rfl⟩
  simp [State.src, h]

/-! ### Flags, Event Queue and reports -/

theorem raiseFlag (s : State) (f : CauseFlag) : Steady s (s.raiseFlag f) := setRegs s _

theorem countN (s : State) (k : Nat) (c : Counter) : Steady s (s.countN k c) := setRegs s _

theorem count (s : State) (c : Counter) : Steady s (s.count c) := countN s 1 c

theorem refuse (s : State) (r : Request) (operand : BitVec 16) (reason : RefuseReason) :
    Steady s (s.refuse r operand reason) := (setRegs s _).trans (raiseFlag _ _)

theorem queueTail (s : State) (n : SourceId) (count : Byte) (overrun resent : Bool) :
    Steady s (s.queueTail n count overrun resent) := (setQueue s _).trans (setSrc _ n _)

theorem queueFront (s : State) (n : SourceId) (count : Byte) (overrun : Bool) :
    Steady s (s.queueFront n count overrun) := (setQueue s _).trans (setSrc _ n _)

theorem reevaluate (s : State) (n : SourceId) (resent : Bool) : Steady s (s.reevaluate n resent) :=
  ite (queueTail s n 1 false resent) (refl s)

theorem withdrawSource (s : State) (n : SourceId) : Steady s (s.withdrawSource n) :=
  ((setQueue s _).trans (setSrc _ n _)).trans (count _ _)

theorem coalesce (s : State) (n : SourceId) : Steady s (s.coalesce n) := by
  unfold State.coalesce
  cases s.messageOf n with
  | none => exact refl s
  | some m => exact ite ((setQueue s _).trans (raiseFlag _ _)) (setQueue s _)

theorem countPending (s : State) (n : SourceId) : Steady s (s.countPending n) :=
  ite ((setSrc s n _).trans (raiseFlag _ _)) (setSrc s n _)

theorem edgeEvent (s : State) (n : SourceId) : Steady s (s.edgeEvent n) := by
  refine ite ?_ (refl s)
  cases (s.src n).state with
  | idle => exact queueTail s n 1 false false
  | queued => exact coalesce s n
  | sent => exact countPending s n
  | delivered => exact refl s
  | holdoff => exact countPending s n

theorem levelChange (s : State) (n : SourceId) (asserted : Bool) : Steady s (s.levelChange n asserted) := by
  refine ite ?_ (refl s)
  cases (s.src n).state with
  | idle => exact ite (queueTail s n 1 false false) (refl s)
  | queued => exact ite (refl s) (withdrawSource s n)
  | sent => exact refl s
  | delivered => exact refl s
  | holdoff => exact refl s

theorem reportAcceptance (s : State) (n : SourceId) (rising : Bool) :
    Steady s (s.reportAcceptance n rising) := by
  unfold State.reportAcceptance
  cases (s.src n).sense with
  | levelHigh => exact levelChange s n rising
  | levelLow => exact levelChange s n (!rising)
  | rising => exact ite (edgeEvent s n) (refl s)
  | falling => exact ite (refl s) (edgeEvent s n)
  | anyEdge => exact edgeEvent s n

/-! ### Source Table -/

theorem maskSet (s : State) (n : SourceId) : Steady s (s.maskSet n) :=
  ite ((setSrc s n _).trans (withdrawSource _ n)) (setSrc s n _)

theorem maskClear (s : State) (n : SourceId) : Steady s (s.maskClear n) :=
  ite ((setSrc s n _).trans (reevaluate _ n false)) (setSrc s n _)

theorem maskClearAll (s : State) (ns : List SourceId) : Steady s (s.maskClearAll ns) :=
  ((foldl (fun t n => setSrc t n _) ns s).trans (foldl (fun t n => reevaluate t n false) _ _)).trans
    (setFreeCount _ _)

theorem maskSetAll (s : State) (ns : List SourceId) : Steady s (s.maskSetAll ns) := foldl maskSet ns s

theorem startHoldoff (s : State) (n : SourceId) : Steady s (s.startHoldoff n) := setSrc s n _

theorem flushPending (s : State) (n : SourceId) : Steady s (s.flushPending n) :=
  ite ((setSrc s n _).trans (queueTail _ n _ _ _)) (setSrc s n _)

theorem ackSource (s : State) (n : SourceId) : Steady s (s.ackSource n) :=
  ite ((setSrc s n _).trans (setDelivered _ _)) (ite (startHoldoff s n) (flushPending s n))

theorem idleReevaluated (s : State) (n : SourceId) (v : Source) (resent : Bool)
    (h : v.filter = (s.src n).filter := by rfl) : Steady s ((s.setSrc n v).reevaluate n resent) :=
  (setSrc s n v h).trans (reevaluate _ n resent)

theorem releaseSource (s : State) (n : SourceId) : Steady s (s.releaseSource n) :=
  ite (startHoldoff s n) (idleReevaluated s n _ false)

theorem abandonSource (s : State) (n : SourceId) : Steady s (s.abandonSource n) :=
  idleReevaluated s n _ true

theorem requeueSource (s : State) (n : SourceId) (c : Byte) (overrun : Bool) :
    Steady s (s.requeueSource n c overrun) := by
  have hidle : Steady s (s.setSrc n { s.src n with pending := 0, pendOvr := false, state := .idle }) :=
    setSrc s n _
  exact ite (ite (hidle.trans (queueFront _ n 1 false)) (hidle.trans (count _ _)))
    (ite (hidle.trans (count _ _))
      (ite ((hidle.trans (queueFront _ n _ _)).trans (raiseFlag _ _)) (hidle.trans (queueFront _ n _ _))))

theorem writeSrcIndex (s : State) (value : Word) : Steady s (s.writeSrcIndex value) := by
  unfold State.writeSrcIndex
  cases sourceOf value.toNat with
  | none => exact refuse s _ _ _
  | some n => exact setRegs s _

theorem forceIdle (s : State) (operand : Byte) : Steady s (s.forceIdle operand) := by
  unfold State.forceIdle
  cases sourceOf operand.toNat with
  | none => exact refuse s _ _ _
  | some n =>
    show Steady s (s.forceIdleSource n operand)
    unfold State.forceIdleSource
    cases (s.src n).state with
    | idle => exact refuse s _ _ _
    | queued => exact refuse s _ _ _
    | sent => exact refuse s _ _ _
    | delivered => exact (setDelivered s _).trans (idleReevaluated _ n _ false)
    | holdoff => exact idleReevaluated s n _ false

theorem tableClear (s : State) : Steady s s.tableClear :=
  ite (refuse s _ _ _)
    (((countN s _ _).trans (setSources_map _ Source.cleared fun _ => rfl)).trans (setQueue _ _))

/-! ### Session Controller -/

theorem setLink (s : State) (l : Link) : Steady s (s.setLink l) := (setSession s _).trans (setReceiver _ _)

theorem enterSyncing (s : State) : Steady s s.enterSyncing := (setSession s _).trans (setLink _ _)

theorem stopGreeting (s : State) : Steady s s.stopGreeting := (setSession s _).trans (setArbiter _ _)

theorem abandonGreeting (s : State) : Steady s s.abandonGreeting := (setSession s _).trans (stopGreeting _)

theorem enterGreeting (s : State) : Steady s s.enterGreeting :=
  ((setSession s _).trans (setArbiter _ _)).trans (setLink _ _)

theorem startSession (s : State) : Steady s s.startSession :=
  ((((((stopGreeting s).trans (setWindow _ _)).trans (setReceiver _ _)).trans (setArbiter _ _)).trans
    (setLink _ _)).trans (count _ _)).trans (raiseFlag _ _)

theorem beginSync (s : State) : Steady s s.beginSync := ite (setTx s _) (refl s)

theorem disposeRecord (s : State) (r : FrameRecord) : Steady s (s.disposeRecord r) := by
  unfold State.disposeRecord
  cases r.body with
  | event m => exact requeueSource s m.source m.count m.overrun
  | note k n => exact setNotes s _
  | reply _ => exact refl s

theorem disposeRecords (s : State) (rs : List FrameRecord) : Steady s (s.disposeRecords rs) := by
  induction rs with
  | nil => exact refl s
  | cons r rs ih => exact ih.trans (disposeRecord _ r)

theorem endSession (s : State) : Steady s s.endSession :=
  (((((((setWindow s _).trans (disposeRecords _ _)).trans (setDelivered _ _)).trans
    (foldl abandonSource s.delivered _)).trans (setReplies _ _ List.nil_suffix)).trans
    (setArbiter _ _)).trans (setReceiver _ _)).trans ((setSession _ _).trans (raiseFlag _ _))

theorem leaveLink (s : State) : Steady s s.leaveLink := by
  unfold State.leaveLink
  cases s.session.link with
  | disabled => exact refl s
  | syncing => exact setSession s _
  | greeting => exact abandonGreeting s
  | active => exact endSession s
  | failed => exact setSession s _

theorem recordFault (s : State) (cause : FaultCause) : Steady s (s.recordFault cause) :=
  ite (setSession s _) (ite (refl s) (setSession s _))

theorem enterFailed (s : State) (cause : FaultCause) : Steady s (s.enterFailed cause) :=
  (((((leaveLink s).trans (recordFault _ cause)).trans (raiseFlag _ _)).trans (setSession _ _)).trans
    (setLink _ _)).trans (setTx _ _)

theorem recordHello (s : State) (window epoch : Byte) : Steady s (s.recordHello window epoch) :=
  setSession s _

theorem greetHello (s : State) (heard : Bool) (revision window epoch role : Byte) :
    Steady s (s.greetHello heard revision window epoch role) :=
  ite (ite ((recordHello s window epoch).trans (startSession _)) (recordHello s window epoch))
    (enterFailed s _)

theorem activeHello (s : State) (epoch : Byte) : Steady s (s.activeHello epoch) :=
  ite (refl s) (enterFailed s _)

theorem linkEnable (s : State) : Steady s s.linkEnable :=
  ite ((enterSyncing s).trans (beginSync _)) (refl s)

theorem linkDisable (s : State) : Steady s s.linkDisable := 
  ite (refl s) (((leaveLink s).trans (setLink _ _)).trans (setTx _ _))

theorem linkRestart (s : State) : Steady s s.linkRestart :=
  ite (refuse s _ _ _) (((leaveLink s).trans (enterSyncing _)).trans (setTx _ _))

theorem countSync (s : State) (v : Option Byte) : Steady s (s.countSync v) :=
  ite (ite (enterGreeting s) (setSession s _)) (setSession s _)

theorem takeBreak (s : State) : Steady s s.takeBreak := by
  unfold State.takeBreak
  cases s.session.link with
  | disabled => exact refl s
  | syncing => exact setSession s _
  | greeting => exact (abandonGreeting s).trans (enterSyncing _)
  | active => exact enterFailed s _
  | failed => exact refl s

/-! ### Retransmit Window and Completions -/

theorem ackRecord (s : State) (r : FrameRecord) : Steady s (s.ackRecord r) := by
  unfold State.ackRecord
  cases r.body with
  | event m => exact ackSource s m.source
  | note k _ => exact (setNotes s _).trans (raiseFlag _ _)
  | reply _ => exact refl s

theorem removeAcked (s : State) (k : Nat) : Steady s (s.removeAcked k) :=
  (setWindow s _).trans (foldl ackRecord _ _)

theorem takeAck (s : State) (n : SeqNum) : Steady s (s.takeAck n) :=
  ite (((removeAcked s _).trans (setArbiter _ _)).trans (setWindow _ _)) (refl s)

theorem countRetry (s : State) (resend : Option SeqNum) : Steady s (s.countRetry resend) :=
  ite ((setWindow s _).trans (enterFailed _ _)) (((setWindow s _).trans (setArbiter _ _)).trans (setWindow _ _))

theorem takeNak (s : State) (n : SeqNum) : Steady s (s.takeNak n) :=
  ite ((removeAcked s _).trans (countRetry _ _)) (refl s)

theorem ackTimerExpiry (s : State) : Steady s s.ackTimerExpiry := ite (countRetry s _) (refl s)

theorem endReport (s : State) : Steady s s.endReport := ite (setWindow s _) (refl s)

theorem unmatchedCompletion (s : State) (vector : Byte) (oldest : Bool) (reason : UnmatchedReason) :
    Steady s (s.unmatchedCompletion vector oldest reason) :=
  ((count s _).trans (raiseFlag _ _)).trans (setRegs _ _)

theorem takeCompletion (s : State) (oldest : Bool) (vector : Byte) :
    Steady s (s.takeCompletion oldest vector) := by
  refine ite (ite (unmatchedCompletion s _ _ _) ?_)
    (ite (unmatchedCompletion s _ _ _) ((setDelivered s _).trans (foldl releaseSource _ _)))
  cases s.delivered with
  | nil => exact unmatchedCompletion s _ _ _
  | cons n rest => exact (setDelivered s rest).trans (releaseSource _ n)

/-! ### Notes -/

theorem noteSend (s : State) : Steady s s.noteSend := by
  unfold State.noteSend
  cases s.notes.freeSlot with
  | none => exact refuse s _ _ _
  | some k => exact ite (refuse s _ _ _) (setNotes s _)

theorem notePop (s : State) : Steady s s.notePop := by
  unfold State.notePop
  split
  next => exact refuse s _ _ _
  next x rest hf => exact setNotes s _ (hf ▸ List.suffix_cons x rest)

theorem noteFlush (s : State) : Steady s s.noteFlush := setNotes s _

/-! ### Receiver and transmitter -/

theorem acceptSequenced (s : State) (n : SeqNum) : Steady s (s.acceptSequenced n) :=
  (setReceiver s _).trans (setArbiter _ _)

theorem duplicate (s : State) : Steady s s.duplicate := (setArbiter s _).trans (count _ _)

theorem ahead (s : State) : Steady s s.ahead := ite (refl s) ((setArbiter s _).trans (setReceiver _ _))

theorem badFrame (s : State) : Steady s s.badFrame := by
  unfold State.badFrame
  cases s.session.link with
  | disabled => exact refl s
  | syncing => exact refl s
  | greeting => exact (setReceiver s _).trans (count _ _)
  | active =>
    have hcounted := ((setReceiver s { s.receiver with assembly := none }).trans (count _ .badFrames)).trans
      (setReceiver _ { s.receiver with assembly := none, badRun := s.receiver.badRun + 1 })
    exact ite (hcounted.trans (enterFailed _ _)) hcounted
  | failed => exact refl s

theorem grant (s : State) (b : Body) : Steady s (s.grant b) := (setWindow s _).trans (setTx _ _)

theorem passTurn (s : State) (contested : Bool) : Steady s (s.passTurn contested) :=
  ite (setArbiter s _) (refl s)

theorem grantEvent (s : State) (m : Message) : Steady s (s.grantEvent m) :=
  (((setQueue s _).trans (setSrc _ m.source _)).trans (grant _ _)).trans (count _ _)

theorem grantNote (s : State) (k : SlotId) (n : Note) : Steady s (s.grantNote k n) :=
  (setNotes s _).trans (grant _ _)

theorem send (s : State) (c : Choice) : Steady s (s.send c) := by
  cases c with
  | reply r => exact (setReplies s _ (List.tail_suffix _)).trans (grant _ _)
  | event m => exact (grantEvent s m).trans (passTurn _ _)
  | note k n => exact (grantNote s k n).trans (passTurn _ _)
  | sync => exact setTx s _
  | hello => exact (setArbiter s _).trans (setTx _ _)
  | finalHello => exact (setArbiter s _).trans (setTx _ _)
  | nak n => exact (setArbiter s _).trans (setTx _ _)
  | ack n => exact (setArbiter s _).trans (setTx _ _)
  | resend r => exact ((setArbiter s _).trans (setTx _ _)).trans (count _ _)
  | idle => exact setTx s _

theorem endItem (s : State) : Steady s s.endItem := by
  unfold State.endItem
  split
  · exact (endReport s).trans (setTx _ _)
  · exact setTx s _

theorem boundary (s : State) : Steady s s.boundary := (endItem s).trans (send _ _)

/-! ### Timers and soft requests -/

theorem holdoffExpiry (s : State) (n : SourceId) : Steady s (s.holdoffExpiry n) := by
  have hstop : Steady s (s.setSrc n { s.src n with holdoff := none }) := setSrc s n _
  exact ite (ite (hstop.trans (idleReevaluated _ n _ false)) (hstop.trans (flushPending _ n))) (refl s)

theorem greetIntervalExpiry (s : State) : Steady s s.greetIntervalExpiry := ite (setArbiter s _) (refl s)

theorem greetTimeoutExpiry (s : State) : Steady s s.greetTimeoutExpiry := ite (enterFailed s _) (refl s)

theorem restartDelayExpiry (s : State) : Steady s s.restartDelayExpiry :=
  ite (((leaveLink s).trans (enterSyncing _)).trans (beginSync _)) (refl s)

theorem raiseSoft (s : State) (k : SoftId) : Steady s (s.raiseSoft k) :=
  ite (ite (refl s) ((setSoftLevel s k true).trans (levelChange _ _ _))) (edgeEvent s _)

theorem lowerSoft (s : State) (k : SoftId) : Steady s (s.lowerSoft k) :=
  ite (ite ((setSoftLevel s k false).trans (levelChange _ _ _)) (refl s)) (refl s)

theorem softRequest (s : State) (r : Request) (value : Word) (take : SoftId → State)
    (h : ∀ k, Steady s (take k)) : Steady s (s.softRequest r value take) := by
  unfold State.softRequest
  split
  · exact refuse s _ _ _
  · split
    · exact h _
    · exact refuse s _ _ _

theorem softRaise (s : State) (value : Word) : Steady s (s.softRaise value) :=
  softRequest s _ value _ (raiseSoft s)

theorem softLower (s : State) (value : Word) : Steady s (s.softLower value) :=
  softRequest s _ value _ (lowerSoft s)

/-! ### Register Window -/

theorem takeRead (s : State) (r : Register) : Steady s (s.takeRead r) := by
  unfold State.takeRead State.afterRead
  split
  · exact (setRegs s _).trans (setBus _ _)
  · exact (setSession s _).trans (setBus _ _)
  · exact setBus s _

end Steady

/-! ### The laws kept -/

/-- From s to t the laws on LINK_CFG, on the bounds and on the lines are kept, each by itself. -/
structure KeepsLaws (s t : State) : Prop where
  cfg : s.CfgLaw → t.CfgLaw
  bounds : s.BoundsLaw → t.BoundsLaw
  line : s.LineLaw → t.LineLaw

/-- An operation that leaves alone what the three laws speak of keeps them. -/
theorem Steady.keepsLaws {s t : State} (h : Steady s t) : KeepsLaws s t where
  cfg hs := by rw [State.CfgLaw, h.linkCfg]; exact hs
  bounds := fun ⟨hfifo, hreplies, hnotes, hrecords⟩ =>
    ⟨h.fifo.length_le.trans hfifo, h.replies.length_le.trans hreplies,
      fun n hn => hnotes n (h.fifo.mem hn), fun r hr => hrecords r (h.replies.mem hr)⟩
  line := fun ⟨hlines, hpins⟩ => by
    have hline (l : LineId) : t.line l = s.line l := by rw [State.line, State.line, h.lines]
    refine ⟨fun l => ?_, fun hr l => ?_⟩
    · rw [hline l, h.filters l]
      exact hlines l
    · rw [hline l]
      exact hpins (h.resetting ▸ hr) l

namespace KeepsLaws

variable {s t u : State}

theorem refl (s : State) : KeepsLaws s s := (Steady.refl s).keepsLaws

theorem trans (h : KeepsLaws s t) (k : KeepsLaws t u) : KeepsLaws s u :=
  ⟨k.cfg ∘ h.cfg, k.bounds ∘ h.bounds, k.line ∘ h.line⟩

theorem ite {c : Prop} [Decidable c] (ht : c → KeepsLaws s t) (hu : ¬c → KeepsLaws s u) :
    KeepsLaws s (if c then t else u) := by
  split
  next hc => exact ht hc
  next hc => exact hu hc

theorem foldl {α : Type} {f : State → α → State} (h : ∀ t a, KeepsLaws t (f t a)) (as : List α) (s : State) :
    KeepsLaws s (as.foldl f s) := by
  induction as generalizing s with
  | nil => exact refl s
  | cons a as ih => exact (h s a).trans (ih (f s a))

end KeepsLaws

/-! ### Lines -/

/-- A line under a filter setting as the law of the lines has it, in a reset or outside one (R3, R4). -/
structure Line.Lawful (x : Line) (filter : FilterSetting) (resetting : Option ResetCause) : Prop where
  runs : x.interval.isSome ↔ x.observed ≠ x.accepted
  unfiltered : filter = .none → x.interval = none
  pin : resetting = none → x.observed = x.pin

theorem lineLaw_iff (s : State) :
    s.LineLaw ↔ ∀ l, (s.line l).Lawful (s.src (lineSource l)).filter s.resetting :=
  ⟨fun ⟨hlines, hpins⟩ l => ⟨(hlines l).1, (hlines l).2, fun hr => hpins hr l⟩,
    fun h => ⟨fun l => ⟨(h l).runs, (h l).unfiltered⟩, fun hr l => (h l).pin hr⟩⟩

/-- A line whose accepted value is the observed one and whose interval stands stopped. -/
theorem Line.Lawful.of_accepted {x : Line} {filter : FilterSetting} {resetting : Option ResetCause}
    (ha : x.accepted = x.observed) (hi : x.interval = none) (hp : resetting = none → x.observed = x.pin) :
    x.Lawful filter resetting :=
  ⟨by simp [ha, hi], fun _ => hi, hp⟩

/-- A line as a reset leaves it (R9). -/
theorem Line.lawful_reset (pin : Bool) (filter : FilterSetting) (resetting : Option ResetCause) :
    (Line.reset pin).Lawful filter resetting := .of_accepted rfl rfl fun _ => rfl

theorem State.setLine_line_same (s : State) (l : LineId) : s.setLine l (s.line l) = s := by
  simp [State.setLine, State.line]

namespace KeepsLaws

/-- A line set to a lawful value. -/
theorem setLine (s : State) (l : LineId) (x : Line)
    (hx : s.LineLaw → x.Lawful (s.src (lineSource l)).filter s.resetting) : KeepsLaws s (s.setLine l x) := by
  refine ⟨id, id, fun hs => (lineLaw_iff _).2 fun m => ?_⟩
  rw [State.setLine_line]
  split
  next hm => rw [hm]; exact hx hs
  next => exact (lineLaw_iff s).1 hs m

/-- An acceptance on a line that has just been set (R2, R3, R6). -/
theorem acceptLine_setLine (s : State) (l : LineId) (x : Line)
    (hx : s.LineLaw → s.resetting = none → x.observed = x.pin) :
    KeepsLaws s ((s.setLine l x).acceptLine l) := by
  unfold State.acceptLine
  rw [State.setLine_line_self, State.setLine_setLine, State.setLine_setLine]
  refine ite (fun ha => setLine s l _ fun hs => .of_accepted ha rfl (hx hs)) fun _ => ?_
  exact (setLine s l { x with accepted := x.observed, interval := none } fun hs =>
    .of_accepted rfl rfl (hx hs)).trans (Steady.reportAcceptance _ _ _).keepsLaws

theorem acceptLine (s : State) (l : LineId) : KeepsLaws s (s.acceptLine l) := by
  have h := acceptLine_setLine s l (s.line l) fun hs hr => hs.2 hr l
  rwa [State.setLine_line_same] at h

theorem intervalExpiry (s : State) (l : LineId) : KeepsLaws s (s.intervalExpiry l) :=
  ite (fun _ => acceptLine s l) fun _ => refl s

/-- A new level on a pin whose observed value stands, in a reset or at that level already. -/
theorem setPin (s : State) (l : LineId) (level : Bool) (h : s.resetting = none → (s.line l).observed = level) :
    KeepsLaws s (s.setLine l { s.line l with pin := level }) :=
  setLine s l _ fun hs =>
    have hl := (lineLaw_iff s).1 hs l
    ⟨hl.runs, hl.unfiltered, h⟩

theorem observe (s : State) (l : LineId) (level : Bool) : KeepsLaws s (s.observe l level) := by
  by_cases ho : (s.line l).observed = level
  · rw [State.observe, if_pos ho]
    exact setPin s l level fun _ => ho
  · by_cases hf : (s.src (lineSource l)).filter = .none
    · rw [State.observe, if_neg ho, if_pos hf]
      exact acceptLine_setLine s l _ fun _ _ => rfl
    · rw [State.observe_filtered s l level ho hf]
      refine setLine s l _ fun _ => ⟨?_, fun h => absurd h hf, fun _ => rfl⟩
      by_cases hl : level = (s.line l).accepted <;> simp [hl]

/-! ### SRC_CONFIG -/

/-- An entry replaced: the line of a changed filter is recomputed, so that its interval stands stopped (R7). -/
theorem reconfigure (s : State) (n : SourceId) (e : Source) :
    KeepsLaws s ((s.setSrc n e).recomputeIfChanged n (s.src n)) := by
  unfold State.recomputeIfChanged
  split
  next hn =>
    refine ite (fun _ => ⟨id, id, fun hs => (lineLaw_iff _).2 fun m => ?_⟩) fun hsame => ?_
    · rw [State.recomputeLine, State.setLine_line]
      split
      next => exact .of_accepted rfl rfl fun hr => hs.2 hr _
      next hm =>
        have hne : lineSource m ≠ n := by
          rintro rfl
          exact hm rfl
        rw [State.setSrc_line, State.setLine_src, State.setSrc_src_ne _ _ _ _ hne]
        exact (lineLaw_iff s).1 hs m
    · rw [State.setSrc_src_self, not_or, not_not, not_not] at hsame
      exact (Steady.setSrc s n e hsame.2).keepsLaws
  next hn =>
    refine ⟨id, id, fun hs => (lineLaw_iff _).2 fun m => ?_⟩
    have hne : lineSource m ≠ n := by
      rintro rfl
      exact hn m.isLt
    rw [State.setSrc_line, State.setSrc_src_ne _ _ _ _ hne]
    exact (lineLaw_iff s).1 hs m

theorem takeConfig (s : State) (n : SourceId) (w : ConfigWrite) (sense : Sense) :
    KeepsLaws s (s.takeConfig n w sense) :=
  ite (fun _ => (reconfigure s n _).trans (Steady.reevaluate _ n false).keepsLaws) fun _ => reconfigure s n _

theorem writeSrcConfig (s : State) (value : Word) : KeepsLaws s (s.writeSrcConfig value) := by
  refine ite (fun _ => (Steady.refuse s _ _ _).keepsLaws) fun _ => ?_
  split
  · exact (Steady.refuse s _ _ _).keepsLaws
  · exact takeConfig s _ _ _

/-! ### LINK_CFG and device reset -/

/-- A LINK_CFG write is checked before it is taken (R182). -/
theorem writeLinkCfg (s : State) (value : Word) : KeepsLaws s (s.writeLinkCfg value) :=
  ite (fun _ => (Steady.refuse s _ _ _).keepsLaws) fun _ =>
    ite (fun hv => ⟨fun _ => hv, id, id⟩) fun _ => (Steady.refuse s _ _ _).keepsLaws

theorem enterReset (s : State) (cause : ResetCause) : KeepsLaws s (s.enterReset cause) where
  cfg _ := by show LinkCfg.reset.valid = true; decide
  bounds _ := by simp [State.BoundsLaw, State.enterReset, State.reset, NoteUnit.reset]
  line _ := (lineLaw_iff _).2 fun l => by
    have hl : (s.enterReset cause).line l = Line.reset (s.line l).pin := by
      simp [State.enterReset, State.line]
    rw [hl]
    exact Line.lawful_reset _ _ _

/-- The lines at the end of a reset take the pins, whatever else of the registers and the bus is set (R9). -/
theorem linesFromPins (s : State) (resetting : Option ResetCause) :
    KeepsLaws s ((s.setLines (s.lines.map fun l => Line.reset l.pin)).setResetting resetting) := by
  refine ⟨id, id, fun _ => (lineLaw_iff _).2 fun l => ?_⟩
  have hl : ((s.setLines (s.lines.map fun l => Line.reset l.pin)).setResetting resetting).line l =
      Line.reset (s.line l).pin := by simp [State.setResetting, State.setLines, State.line]
  rw [hl]
  exact Line.lawful_reset _ _ _

/-! ### Inbound notes and replies -/

/-- A note of 1 to 8 bytes accepted into a FIFO that has room (R166). -/
theorem takeNote (s : State) (tag : Byte) (data : List Byte) (hroom : s.notes.fifo.length < Config.fifoSize)
    (hdata : 1 ≤ data.length ∧ data.length ≤ 8) : KeepsLaws s (s.takeNote tag data) := by
  refine ⟨id, fun ⟨_, hreplies, hnotes, hrecords⟩ => ⟨?_, hreplies, fun n hn => ?_, hrecords⟩, id⟩
  · rw [State.takeNote_eq, List.length_append, List.length_singleton]
    exact hroom
  · rw [State.takeNote_eq, List.mem_append, List.mem_singleton] at hn
    rcases hn with hn | rfl
    · exact hnotes n hn
    · exact hdata

/-- A reply of at most 8 records appended to a Reply Queue that has room (R169). -/
theorem answer (s : State) (tag : Byte) (result : ReplyResult) (records : List SourceRecord)
    (hroom : s.replies.length < Config.replyQueueSize) (hrecords : records.length ≤ 8) :
    KeepsLaws s (s.answer tag result records) := by
  refine ⟨id, fun ⟨hfifo, _, hnotes, hreplies⟩ => ⟨hfifo, ?_, hnotes, fun r hr => ?_⟩, id⟩
  · rw [State.answer_eq, List.length_append, List.length_singleton]
    exact hroom
  · rw [State.answer_eq, List.mem_append, List.mem_singleton] at hr
    rcases hr with hr | rfl
    · exact hreplies r hr
    · exact hrecords

theorem answer_of_steady (h : Steady s t) (tag : Byte) (result : ReplyResult) (records : List SourceRecord)
    (hroom : s.replies.length < Config.replyQueueSize) (hrecords : records.length ≤ 8) :
    KeepsLaws s (t.answer tag result records) :=
  h.keepsLaws.trans (answer t tag result records (Nat.lt_of_le_of_lt h.replies.length_le hroom) hrecords)

theorem remoteMask (s : State) (tag : Byte) (n : SourceId) (op : RemoteOp)
    (hroom : s.replies.length < Config.replyQueueSize) : KeepsLaws s (s.remoteMask tag n op) := by
  have hmask : Steady s (if op = .mask then s.maskSet n else s.maskClear n) :=
    Steady.ite (Steady.maskSet s n) (Steady.maskClear s n)
  exact answer_of_steady ((hmask.trans (Steady.raiseFlag _ .remoteAction)).trans (Steady.setRegs _ _)) _ _ _
    hroom (Nat.one_le_ofNat)

theorem controlMask (s : State) (tag first count : Byte) (op : RemoteOp)
    (hroom : s.replies.length < Config.replyQueueSize) : KeepsLaws s (s.controlMask tag first count op) := by
  refine ite (fun _ => answer s _ _ _ hroom (by simp)) fun _ => ?_
  cases sourceOf first.toNat with
  | none => exact answer s _ _ _ hroom (by simp)
  | some n => exact ite (fun _ => remoteMask s tag n op hroom) fun _ => answer s _ _ _ hroom (by simp)

end KeepsLaws

/-- A range of `count` numbers holds at most `count` sources. -/
theorem length_sourceRange_le (first count : Nat) :
    (allSources.filter fun n => first ≤ n.val ∧ n.val < first + count).length ≤ count := by
  have hnodup : allSources.Nodup := List.nodup_finRange 40
  have hsubset : (allSources.filter fun n => first ≤ n.val ∧ n.val < first + count).map Fin.val ⊆
      List.range' first count := by
    intro i hi
    obtain ⟨n, hn, rfl⟩ := List.mem_map.1 hi
    simpa using (List.mem_filter.1 hn).2
  have hsub := ((hnodup.filter _).map Fin.val_injective).subperm hsubset
  calc _ = _ := (List.length_map ..).symm
    _ ≤ (List.range' first count).length := hsub.length_le
    _ = count := List.length_range'

/-- The NOTE frames among the good ones hold 1 to 8 data bytes (R96, R103). -/
def RxFrame.noteFits : RxFrame → Prop
  | .note _ _ data => 1 ≤ data.length ∧ data.length ≤ 8
  | _ => True

/-- A NOTE that the kinds and lengths of R96 let through has 1 to 8 data bytes. -/
theorem readKind_note {hdr : Byte} {seq n : SeqNum} {payload data : List Byte} {tag : Byte}
    (h : readKind hdr seq payload = some (.note n tag data)) : 1 ≤ data.length ∧ data.length ≤ 8 := by
  unfold readKind at h
  generalize (hdr.extractLsb' 4 4).toNat = kind at h
  match kind with
  | 5 =>
    cases payload with
    | nil => cases h
    | cons first rest =>
      change (if 1 ≤ rest.length ∧ rest.length ≤ 8 then some (RxFrame.note seq first rest) else none) = _ at h
      split at h
      next hdata => cases h; exact hdata
      next => cases h
  | 0 | 1 | 2 | 3 | 4 | 6 | 7 | 8 | 9 | _ + 10 =>
    rcases payload with _ | ⟨_, _ | ⟨_, _ | ⟨_, _ | ⟨_, _ | _⟩⟩⟩⟩ <;> cases h

theorem readKind_noteFits {hdr : Byte} {seq : SeqNum} {payload : List Byte} {f : RxFrame}
    (h : readKind hdr seq payload = some f) : f.noteFits := by
  cases f with
  | note n tag data => exact readKind_note h
  | _ => exact True.intro

theorem judge_noteFits {c : Collecting} {f : RxFrame} (h : judge c = some f) : f.noteFits := by
  unfold judge readFrame at h
  split at h
  · cases h
  · split at h
    · dsimp only at h
      split at h
      · exact readKind_noteFits h
      · cases h
    · cases h

namespace KeepsLaws

theorem controlQuery (s : State) (tag first count : Byte)
    (hroom : s.replies.length < Config.replyQueueSize) : KeepsLaws s (s.controlQuery tag first count) := by
  refine ite (fun _ => answer s _ _ _ hroom (Nat.zero_le _)) fun hcount =>
    ite (fun _ => answer s _ _ _ hroom (Nat.zero_le _)) fun _ => answer s _ _ _ hroom ?_
  rw [List.length_map]
  exact (length_sourceRange_le _ _).trans (by omega)

theorem takeControl (s : State) (tag op first count : Byte)
    (hroom : s.replies.length < Config.replyQueueSize) : KeepsLaws s (s.takeControl tag op first count) := by
  unfold State.takeControl
  split
  · exact controlMask s tag first count .mask hroom
  · exact controlMask s tag first count .unmask hroom
  · exact controlQuery s tag first count hroom
  · exact answer s _ _ _ hroom (Nat.zero_le _)

/-! ### Frames received -/

/-- A sequenced frame whose consumer keeps the laws when it has room (R138 to R143). -/
theorem sequenced (s : State) (n : SeqNum) (room : Bool) (consume : State → State)
    (h : room = true → KeepsLaws s (consume s)) : KeepsLaws s (s.sequenced n room consume) := by
  unfold State.sequenced
  cases classify s.receiver.expected n with
  | expected =>
    exact ite (fun hroom => (h hroom).trans (Steady.acceptSequenced _ n).keepsLaws)
      fun _ => (Steady.count s _).keepsLaws
  | duplicate => exact (Steady.duplicate s).keepsLaws
  | ahead => exact (Steady.ahead s).keepsLaws

theorem activeFrame (s : State) (f : RxFrame) (hf : f.noteFits) : KeepsLaws s (s.activeFrame f) := by
  cases f with
  | hello heard revision window epoch role => exact (Steady.activeHello s epoch).keepsLaws
  | ack n => exact (Steady.takeAck s n).keepsLaws
  | nak n => exact (Steady.takeNak s n).keepsLaws
  | complete n oldest vector =>
    exact sequenced s n _ (fun t => t.takeCompletion oldest vector) fun _ =>
      (Steady.takeCompletion s oldest vector).keepsLaws
  | note n tag data =>
    exact sequenced s n _ (fun t => t.takeNote tag data) fun hroom =>
      takeNote s tag data (of_decide_eq_true hroom) hf
  | control n tag op first count =>
    exact sequenced s n _ (fun t => t.takeControl tag op first count) fun hroom =>
      takeControl s tag op first count (of_decide_eq_true hroom)

theorem greetingFrame (s : State) (f : RxFrame) : KeepsLaws s (s.greetingFrame f) := by
  cases f with
  | hello heard revision window epoch role =>
    exact (Steady.greetHello s heard revision window epoch role).keepsLaws
  | ack n => exact refl s
  | nak n => exact refl s
  | complete n oldest vector => exact refl s
  | note n tag data => exact refl s
  | control n tag op first count => exact refl s

theorem goodFrame (s : State) (f : RxFrame) (hf : f.noteFits) : KeepsLaws s (s.goodFrame f) := by
  unfold State.goodFrame
  cases s.session.link with
  | disabled => exact refl s
  | syncing => exact refl s
  | greeting => exact (Steady.setReceiver s _).keepsLaws.trans (greetingFrame _ f)
  | active =>
    exact ((Steady.setReceiver s _).trans (Steady.setReceiver _ _)).keepsLaws.trans (activeFrame _ f hf)
  | failed => exact refl s

theorem badFrame (s : State) : KeepsLaws s s.badFrame := (Steady.badFrame s).keepsLaws

theorem collect (s : State) (c : Collecting) (v : Option Byte) : KeepsLaws s (s.collect c v) := by
  refine ite (fun _ => ?lengthByte) fun _ => ite (fun _ => ?lastByte) fun _ => (Steady.setReceiver s _).keepsLaws
  case lengthByte =>
    cases v with
    | none => exact badFrame s
    | some b => exact ite (fun _ => (Steady.setReceiver s _).keepsLaws) fun _ => badFrame s
  case lastByte =>
    cases hj : judge (c.add v) with
    | none => exact badFrame s
    | some f => exact goodFrame s f (judge_noteFits hj)

theorem takeCharacter (s : State) (v : Option Byte) : KeepsLaws s (s.takeCharacter v) := by
  have hassemble : KeepsLaws s (s.assemble v) := by
    unfold State.assemble
    cases s.receiver.assembly with
    | none => exact ite (fun _ => (Steady.setReceiver s _).keepsLaws) fun _ => refl s
    | some c => exact collect s c v
  unfold State.takeCharacter
  cases s.session.link with
  | disabled => exact refl s
  | syncing => exact (Steady.countSync s v).keepsLaws
  | greeting => exact hassemble
  | active => exact hassemble
  | failed => exact refl s

/-! ### The local bus -/

theorem command (s : State) (code operand : Byte) : KeepsLaws s (s.command code operand) := by
  unfold State.command
  split
  · exact (Steady.forceIdle s operand).keepsLaws
  · exact (Steady.tableClear s).keepsLaws
  · exact (Steady.noteSend s).keepsLaws
  · exact (Steady.notePop s).keepsLaws
  · exact (Steady.noteFlush s).keepsLaws
  · exact (Steady.linkEnable s).keepsLaws
  · exact (Steady.linkDisable s).keepsLaws
  · exact (Steady.linkRestart s).keepsLaws
  · exact (Steady.setRegs s _).keepsLaws
  · exact enterReset s .command
  · exact (Steady.refuse s _ _ _).keepsLaws

theorem takeWrite (s : State) (value : Word) (r : Register) : KeepsLaws s (s.takeWrite value r) := by
  cases r with
  | srcIndex => exact (Steady.writeSrcIndex s value).keepsLaws
  | srcConfig => exact writeSrcConfig s value
  | maskSetLo => exact (Steady.maskSetAll s _).keepsLaws
  | maskSetHi => exact (Steady.maskSetAll s _).keepsLaws
  | maskClrLo => exact (Steady.maskClearAll s _).keepsLaws
  | maskClrHi => exact (Steady.maskClearAll s _).keepsLaws
  | softRaise => exact (Steady.softRaise s value).keepsLaws
  | softLower => exact (Steady.softLower s value).keepsLaws
  | cmd => exact command s _ _
  | linkCfg => exact writeLinkCfg s value
  | noteOutCtrl => exact (Steady.setNotes s _).keepsLaws
  | noteOutData0 => exact (Steady.setNotes s _).keepsLaws
  | noteOutData1 => exact (Steady.setNotes s _).keepsLaws
  | cause => exact (Steady.setRegs s _).keepsLaws
  | causeEn => exact (Steady.setRegs s _).keepsLaws
  | _ => exact refl s

theorem takeAccess (s : State) (a : Access) : KeepsLaws s (s.takeAccess a) := by
  cases a with
  | read addr => exact (Steady.takeRead s _).keepsLaws
  | write addr value => exact takeWrite s value _

theorem onBus (s : State) (a : Access) (take : State → State) (h : KeepsLaws s (take s)) :
    KeepsLaws s (s.onBus a take) :=
  ite (fun _ => (Steady.setBus s _).keepsLaws) fun _ => h.trans (Steady.setBus _ _).keepsLaws

theorem serveWaiting (s : State) (as : List Access) : KeepsLaws s (s.serveWaiting as) :=
  foldl (fun t a => onBus t a _ (takeAccess t a)) as s

theorem endReset (s : State) : KeepsLaws s s.endReset := by
  unfold State.endReset
  cases s.resetting with
  | none => exact refl s
  | some cause =>
    let t := s.setLines (s.lines.map fun l => Line.reset l.pin)
    have hlines : KeepsLaws s (t.setResetting none) := linesFromPins s none
    have hcause : KeepsLaws s ((t.setRegs { t.regs with resetCause := cause }).setResetting none) :=
      hlines.trans (Steady.setRegs (t.setResetting none) { t.regs with resetCause := cause }).keepsLaws
    exact (hcause.trans (Steady.setBus _ _).keepsLaws).trans (serveWaiting _ _)

theorem unlessReset (s : State) (f : State → State) (h : KeepsLaws s (f s)) : KeepsLaws s (s.unlessReset f) :=
  ite (fun _ => refl s) fun _ => h

end KeepsLaws

open KeepsLaws in
/-- Every command keeps the three laws. -/
theorem exec_keepsLaws (c : Instr) (s : State) : ∃ t, exec c s = .next t ∧ KeepsLaws s t := by
  cases c with
  | observedLineChange l level =>
    refine ⟨_, rfl, ite (fun hr => setPin s l level fun hn => ?_) fun _ => observe s l level⟩
    simp [State.inReset, hn] at hr
  | stabilityIntervalExpiry l => exact ⟨_, rfl, unlessReset s _ (intervalExpiry s l)⟩
  | srcIndexWrite v => exact ⟨_, rfl, onBus s _ _ (takeWrite s v .srcIndex)⟩
  | srcConfigWrite v => exact ⟨_, rfl, onBus s _ _ (takeWrite s v .srcConfig)⟩
  | maskSetLo v => exact ⟨_, rfl, onBus s _ _ (takeWrite s v .maskSetLo)⟩
  | maskSetHi v => exact ⟨_, rfl, onBus s _ _ (takeWrite s v .maskSetHi)⟩
  | maskClrLo v => exact ⟨_, rfl, onBus s _ _ (takeWrite s v .maskClrLo)⟩
  | maskClrHi v => exact ⟨_, rfl, onBus s _ _ (takeWrite s v .maskClrHi)⟩
  | softRaise v => exact ⟨_, rfl, onBus s _ _ (takeWrite s v .softRaise)⟩
  | softLower v => exact ⟨_, rfl, onBus s _ _ (takeWrite s v .softLower)⟩
  | forceIdle op => exact ⟨_, rfl, onBus s _ _ (command s 0x01#8 op)⟩
  | tableClear op => exact ⟨_, rfl, onBus s _ _ (command s 0x02#8 op)⟩
  | noteSend op => exact ⟨_, rfl, onBus s _ _ (command s 0x03#8 op)⟩
  | notePop op => exact ⟨_, rfl, onBus s _ _ (command s 0x04#8 op)⟩
  | noteFlush op => exact ⟨_, rfl, onBus s _ _ (command s 0x05#8 op)⟩
  | linkEnable op => exact ⟨_, rfl, onBus s _ _ (command s 0x06#8 op)⟩
  | linkDisable op => exact ⟨_, rfl, onBus s _ _ (command s 0x07#8 op)⟩
  | linkRestart op => exact ⟨_, rfl, onBus s _ _ (command s 0x08#8 op)⟩
  | statsClear op => exact ⟨_, rfl, onBus s _ _ (command s 0x09#8 op)⟩
  | deviceReset op => exact ⟨_, rfl, onBus s _ _ (command s 0x0A#8 op)⟩
  | unknownCommand code op => exact ⟨_, rfl, onBus s _ _ (command s code op)⟩
  | linkCfgWrite v => exact ⟨_, rfl, onBus s _ _ (takeWrite s v .linkCfg)⟩
  | linkStatusRead => exact ⟨_, rfl, onBus s _ _ (Steady.takeRead s .linkStatus).keepsLaws⟩
  | linkFaultRead => exact ⟨_, rfl, onBus s _ _ (Steady.takeRead s .linkFault).keepsLaws⟩
  | causeWrite v => exact ⟨_, rfl, onBus s _ _ (takeWrite s v .cause)⟩
  | causeEnWrite v => exact ⟨_, rfl, onBus s _ _ (takeWrite s v .causeEn)⟩
  | registerWrite addr v => exact ⟨_, rfl, onBus s _ _ (takeWrite s v (Register.ofAddr addr))⟩
  | rstN => exact ⟨_, rfl, enterReset s .pin⟩
  | powerUp => exact ⟨_, rfl, enterReset s .pin⟩
  | resetEnd => exact ⟨_, rfl, endReset s⟩
  | character c => exact ⟨_, rfl, unlessReset s _ (takeCharacter s (charValue c))⟩
  | characterGap => exact ⟨_, rfl, unlessReset s _ (ite (fun _ => badFrame s) fun _ => refl s)⟩
  | lineBreak =>
    exact ⟨_, rfl, unlessReset s _ ((Steady.setReceiver s _).trans (Steady.takeBreak _)).keepsLaws⟩
  | hello heard revision window epoch role =>
    exact ⟨_, rfl, unlessReset s _ (goodFrame s (.hello heard revision window epoch role) True.intro)⟩
  | ack n => exact ⟨_, rfl, unlessReset s _ (goodFrame s (.ack n) True.intro)⟩
  | nak n => exact ⟨_, rfl, unlessReset s _ (goodFrame s (.nak n) True.intro)⟩
  | complete seq oldest vector =>
    exact ⟨_, rfl, unlessReset s _ (goodFrame s (.complete seq oldest vector) True.intro)⟩
  | note seq tag data =>
    exact ⟨_, rfl, unlessReset s _ (ite (goodFrame s (.note seq tag data)) fun _ => badFrame s)⟩
  | control seq tag op first count =>
    exact ⟨_, rfl, unlessReset s _ (goodFrame s (.control seq tag op first count) True.intro)⟩
  | frameBoundary => exact ⟨_, rfl, unlessReset s _ (Steady.boundary s).keepsLaws⟩
  | holdoffExpiry n => exact ⟨_, rfl, unlessReset s _ (Steady.holdoffExpiry s n).keepsLaws⟩
  | acknowledgmentTimerExpiry => exact ⟨_, rfl, unlessReset s _ (Steady.ackTimerExpiry s).keepsLaws⟩
  | greetingIntervalExpiry => exact ⟨_, rfl, unlessReset s _ (Steady.greetIntervalExpiry s).keepsLaws⟩
  | greetTimeout => exact ⟨_, rfl, unlessReset s _ (Steady.greetTimeoutExpiry s).keepsLaws⟩
  | restartDelayExpiry => exact ⟨_, rfl, unlessReset s _ (Steady.restartDelayExpiry s).keepsLaws⟩

/-- Every step keeps the three laws: the command at the front of the queue, or the tick of an empty one. -/
theorem step_keepsLaws (s t : State) (h : step s = .next t) : KeepsLaws s t := by
  unfold step at h
  split at h
  next =>
    cases h
    exact (Steady.setNow s _).keepsLaws
  next c rest _ =>
    obtain ⟨u, hu, hkeeps⟩ := exec_keepsLaws c (s.popPending rest)
    rw [hu] at h
    cases h
    exact (Steady.setPending s rest).keepsLaws.trans hkeeps

/-- Settles O57: each law by itself is kept by every step. -/
theorem everyStepKeepsBoundsAndLines : Obligations.EveryStepKeepsBoundsAndLines :=
  ⟨fun s t hs h => (step_keepsLaws s t h).cfg hs, fun s t hs h => (step_keepsLaws s t h).bounds hs,
    fun s t hs h => (step_keepsLaws s t h).line hs⟩

end Sys2Proof.Machine
end

section
/-! PROOFS. The registers and commands of the Source Table (spec/02): SRC_INDEX, FORCE_IDLE and TABLE_CLEAR. -/

namespace Sys2Proof.Machine

/-! ### Source numbers -/

/-- A value below 40 names the source of that number (R21, R34). -/
theorem sourceOf_eq_some {k : Nat} {n : SourceId} (h : k = n.val) : sourceOf k = some n := by
  subst h
  exact dif_pos n.isLt

/-- A value of 40 or more names no source (R21, R34). -/
theorem sourceOf_eq_none {k : Nat} (h : 40 ≤ k) : sourceOf k = none := dif_neg (by omega)

/-- A refused write, with the access complete (R181). -/
theorem refuse_ready_eq (s : State) (r : Request) (operand : BitVec 16) (reason : RefuseReason) :
    (s.refuse r operand reason).ready = s.afterRefusal r.code operand reason := rfl

/-! ### The commands outside a reset -/

theorem exec_srcIndexWrite (s : State) (v : Word) (h : s.resetting = none) :
    exec (.srcIndexWrite v) s = .next (s.writeSrcIndex v).ready :=
  congrArg _ (s.onBus_none _ (fun u => u.writeSrcIndex v) h)

theorem exec_forceIdle (s : State) (op : Byte) (h : s.resetting = none) :
    exec (.forceIdle op) s = .next (s.forceIdle op).ready :=
  congrArg _ (s.onBus_none _ (fun u => u.forceIdle op) h)

theorem exec_tableClear (s : State) (op : Byte) (h : s.resetting = none) :
    exec (.tableClear op) s = .next s.tableClear.ready :=
  congrArg _ (s.onBus_none _ State.tableClear h)

/-- Settles O10, by the two outcomes of `sourceOf`. -/
theorem srcIndexTakesSourceNumbersAlone : Obligations.SrcIndexTakesSourceNumbersAlone := by
  intro s v hr
  rw [exec_srcIndexWrite s v hr, State.writeSrcIndex]
  refine ⟨fun n hn => ?_, fun hv => ?_⟩
  · rw [sourceOf_eq_some hn]
    rfl
  · rw [sourceOf_eq_none hv]
    rfl

/-! ### FORCE_IDLE (R34) -/

namespace State

/-- A re-evaluation does not touch the local bus: the access may complete first. -/
theorem checked_ready (s : State) (n : SourceId) (resent : Bool) :
    (s.checked n resent).ready = s.ready.checked n resent := apply_ite State.ready _ _ _

/-- FORCE_IDLE of a source that holds nothing to release, or whose message is on its way. -/
theorem forceIdleSource_busy (s : State) (n : SourceId) (op : Byte)
    (h : (s.src n).state = .idle ∨ (s.src n).state = .queued ∨ (s.src n).state = .sent) :
    s.forceIdleSource n op = s.refuse .forceIdle (op.setWidth 16) .cfgBusy := by
  rw [forceIdleSource]
  rcases h with h | h | h <;> rw [h]

/-- FORCE_IDLE of a DELIVERED source. -/
theorem forceIdleSource_delivered (s : State) (n : SourceId) (op : Byte) (h : (s.src n).state = .delivered) :
    s.forceIdleSource n op =
      ((s.setDelivered (s.delivered.filter fun m => m ≠ n)).setSrc n
        { s.src n with state := .idle }).checked n false := by
  rw [forceIdleSource, h, ← reevaluate_eq]

/-- FORCE_IDLE of a source in HOLDOFF. -/
theorem forceIdleSource_holdoff (s : State) (n : SourceId) (op : Byte) (h : (s.src n).state = .holdoff) :
    s.forceIdleSource n op =
      (s.setSrc n { s.src n with state := .idle, holdoff := none, pending := 0, pendOvr := false }).checked n
        false := by
  rw [forceIdleSource, h, ← reevaluate_eq]

end State

/-- Settles O15, by the operand and then by STATE. -/
theorem forceIdleReleasesHeldSources : Obligations.ForceIdleReleasesHeldSources := by
  intro s op hr
  rw [exec_forceIdle s op hr, State.forceIdle]
  refine ⟨fun hop => ?_, fun n hn => ?_⟩
  · rw [sourceOf_eq_none hop]
    rfl
  · rw [sourceOf_eq_some hn]
    refine ⟨fun h => ?_, fun h => ?_, fun h => ?_⟩
    · exact congrArg (Host.Outcome.next ·.ready) (s.forceIdleSource_busy n op h)
    · exact congrArg _ ((congrArg State.ready (s.forceIdleSource_delivered n op h)).trans
        (State.checked_ready _ n false))
    · exact congrArg _ ((congrArg State.ready (s.forceIdleSource_holdoff n op h)).trans
        (State.checked_ready _ n false))

/-! ### TABLE_CLEAR (R36) -/

namespace State

@[simp] theorem setSources_map_src (s : State) (f : Source → Source) (n : SourceId) :
    (s.setSources (s.sources.map f)).src n = f (s.src n) := by
  simp [setSources, src]

/-- TABLE_CLEAR outside ACTIVE. -/
theorem tableClear_inactive (s : State) (h : s.session.link ≠ .active) :
    s.tableClear = ((s.countN s.queueDepth .eventsWithdrawn).setSources
      (s.sources.map Source.cleared)).setQueue (Vector.replicate 4 []) := if_neg h

/-- Outside ACTIVE no source is SENT or DELIVERED: the Window and the Delivered List are empty. -/
theorem state_of_inactive {s : State} (hs : s.Inv) (hl : s.session.link ≠ .active) (n : SourceId) :
    (s.src n).state ≠ .sent ∧ (s.src n).state ≠ .delivered := by
  obtain ⟨-, -, -, -, -, -, hinactive⟩ := hs.window
  obtain ⟨hrecords, -, -, hdelivered, -⟩ := hinactive hl
  obtain ⟨-, -, -, hplace⟩ := hs.place
  obtain ⟨-, hsent, hlist, -⟩ := hplace n
  constructor
  · rw [Ne, ← hsent, sentSources, hrecords]
    exact List.not_mem_nil
  · rw [Ne, ← hlist, hdelivered]
    exact List.not_mem_nil

end State

/-- Settles O16: the new state is the model's own, and under the laws no entry was left in SENT or
DELIVERED. -/
theorem tableClearQuietsEverySource : Obligations.TableClearQuietsEverySource := by
  intro s op hr
  rw [exec_tableClear s op hr]
  refine ⟨fun hl => ?refused, fun hl => ⟨_, rfl, ?taken, fun hs n => ?idle⟩⟩
  case refused => rw [State.tableClear, if_pos hl]; rfl
  case taken => rw [s.tableClear_inactive hl]; rfl
  case idle =>
    obtain ⟨hsent, hdelivered⟩ := State.state_of_inactive hs hl n
    rw [s.tableClear_inactive hl, State.ready_src, State.setQueue_src]
    refine (congrArg Source.state (State.setSources_map_src s Source.cleared n)).trans ?_
    rw [Source.cleared]
    cases hstate : (s.src n).state with
    | idle => rfl
    | queued => rfl
    | sent => exact absurd hstate hsent
    | delivered => exact absurd hstate hdelivered
    | holdoff => rfl

end Sys2Proof.Machine
end

section
/-! PROOFS. SRC_CONFIG (R22 to R27): when a write is refused, and what one that is taken does. -/

namespace Sys2Proof.Machine

theorem exec_srcConfigWrite (s : State) (v : Word) (h : s.resetting = none) :
    exec (.srcConfigWrite v) s = .next (s.writeSrcConfig v).ready :=
  congrArg _ (s.onBus_none _ (fun u => u.writeSrcConfig v) h)

/-! ### The fields of a SRC_CONFIG write (section 11.3) -/

/-- Two words agree under a mask exactly if they agree in fields that make up the mask. -/
theorem and_mask_eq_iff (mask : Word) (fields : List (Nat × Nat))
    (hmask : ∀ i : Fin 32, mask.getLsbD i.val = fields.any fun f => f.1 ≤ i.val ∧ i.val < f.1 + f.2)
    (x y : Word) :
    x &&& mask = y &&& mask ↔ ∀ f ∈ fields, x.extractLsb' f.1 f.2 = y.extractLsb' f.1 f.2 := by
  constructor
  · intro h f hf
    ext j hj
    rw [BitVec.getElem_extractLsb', BitVec.getElem_extractLsb']
    by_cases hi : f.1 + j < 32
    · have hset : mask.getLsbD (f.1 + j) = true := by
        rw [hmask ⟨f.1 + j, hi⟩, List.any_eq_true]
        exact ⟨f, hf, by simp [hj]⟩
      have hbit := congrArg (·.getLsbD (f.1 + j)) h
      simpa only [BitVec.getLsbD_and, hset, Bool.and_true] using hbit
    · rw [BitVec.getLsbD_of_ge _ _ (by omega), BitVec.getLsbD_of_ge _ _ (by omega)]
  · intro h
    refine BitVec.eq_of_getLsbD_eq fun i hi => ?_
    rw [BitVec.getLsbD_and, BitVec.getLsbD_and]
    cases hbit : mask.getLsbD i with
    | false => rw [Bool.and_false, Bool.and_false]
    | true =>
      rw [hmask ⟨i, hi⟩, List.any_eq_true] at hbit
      obtain ⟨f, hf, hrange⟩ := hbit
      obtain ⟨hlow, hhigh⟩ := of_decide_eq_true hrange
      have hfield := congrArg (·.getLsbD (i - f.1)) (h f hf)
      have hin : i - f.1 < f.2 := Nat.sub_lt_left_of_lt_add hlow hhigh
      simp only [BitVec.getLsbD_extractLsb', hin, decide_true, Bool.true_and, Nat.add_sub_cancel' hlow]
        at hfield
      rw [hfield]

/-- The fields of SRC_CONFIG other than ENABLE, each as its lowest bit and its width (section 11.3). -/
def configFields : List (Nat × Nat) := [(24, 8), (16, 8), (12, 4), (8, 2), (6, 1), (4, 2), (1, 3)]

/-- Words that agree in the fields of SRC_CONFIG other than ENABLE. -/
theorem and_otherMask_iff (x y : Word) :
    x &&& 0xFFFFF37E#32 = y &&& 0xFFFFF37E#32 ↔
      ∀ f ∈ configFields, x.extractLsb' f.1 f.2 = y.extractLsb' f.1 f.2 :=
  and_mask_eq_iff _ _ (by decide) x y

/-- Words that agree in every field of SRC_CONFIG. -/
theorem and_configMask_iff (x y : Word) :
    x &&& 0xFFFFF37F#32 = y &&& 0xFFFFF37F#32 ↔
      ∀ f ∈ (0, 1) :: configFields, x.extractLsb' f.1 f.2 = y.extractLsb' f.1 f.2 :=
  and_mask_eq_iff _ _ (by decide) x y

/-- Bits are equal exactly if the fields of width 1 at their place are. -/
theorem field_one_eq_iff {n : Nat} (x y : BitVec n) (i : Nat) :
    x.extractLsb' i 1 = y.extractLsb' i 1 ↔ x.getLsbD i = y.getLsbD i := by
  have hfield (z : BitVec n) : z.extractLsb' i 1 = bit1 (z.getLsbD i) := by
    ext j hj
    obtain rfl : j = 0 := by omega
    simp [bit1]
  exact ⟨fun h => bit_of_field (h.trans (hfield y)), fun h => by rw [hfield, hfield, h]⟩

theorem FilterSetting.ofCode_code (f : FilterSetting) : ofCode f.code = f := by cases f <;> rfl

theorem FilterSetting.code_ofCode (c : BitVec 2) : (ofCode c).code = c := by
  revert c
  decide

theorem FilterSetting.ofCode_inj (c d : BitVec 2) : ofCode c = ofCode d ↔ c = d :=
  ⟨fun h => by rw [← code_ofCode c, h, code_ofCode], congrArg _⟩

theorem Sense.ofCode_code (x : Sense) : ofCode x.code = some x := by cases x <;> rfl

theorem Sense.code_of_ofCode {c : BitVec 3} {x : Sense} (h : ofCode c = some x) : x.code = c := by
  revert c x
  decide

/-- A code of 5 to 7 names no sense (R26). -/
theorem Sense.ofCode_eq_none_iff (c : BitVec 3) : ofCode c = none ↔ 5 ≤ c.toNat := by
  revert c
  decide

/-- The fields of SRC_CONFIG as read are those of the entry (R22). -/
theorem ofWord_configWord (e : Source) :
    ConfigWrite.ofWord e.configWord =
      { hold := e.hold, vector := e.vector, dest := e.dest, prio := e.prio, remote := e.remote,
        filter := e.filter, senseCode := e.sense.code, enable := e.enable } := by
  obtain ⟨hold, vector, dest, -, prio, -, remote, filter, sense, enable⟩ := configWord_fields e
  have hprio : (e.configWord.extractLsb' 8 2).toFin = e.prio := Fin.ext prio
  rw [ConfigWrite.ofWord, hold, vector, dest, hprio, remote, filter, sense, enable,
    FilterSetting.ofCode_code]

/-- Words that agree in those fields spell the same writes but for ENABLE. -/
theorem configFields_eq_iff (x y : Word) :
    (∀ f ∈ configFields, x.extractLsb' f.1 f.2 = y.extractLsb' f.1 f.2) ↔
      { ConfigWrite.ofWord x with enable := false } = { ConfigWrite.ofWord y with enable := false } := by
  simp only [configFields, List.forall_mem_cons, List.not_mem_nil, false_imp_iff, implies_true, and_true,
    field_one_eq_iff, ConfigWrite.mk.injEq, ConfigWrite.ofWord, FilterSetting.ofCode_inj]
  have hprio : (x.extractLsb' 8 2).toFin = (y.extractLsb' 8 2).toFin ↔
      x.extractLsb' 8 2 = y.extractLsb' 8 2 := ⟨BitVec.eq_of_toFin_eq, congrArg _⟩
  rw [hprio]

/-- A write changes a field other than ENABLE exactly if it differs from SRC_CONFIG as read in one (R24). -/
theorem changesOther_iff (e : Source) (v : Word) :
    (ConfigWrite.ofWord v).changesOther e = true ↔
      (v &&& 0xFFFFF37E#32) ≠ (e.configWord &&& 0xFFFFF37E#32) := by
  rw [Ne, and_otherMask_iff, configFields_eq_iff, ofWord_configWord, ConfigWrite.changesOther]
  simp only [ConfigWrite.mk.injEq, and_true, not_and_or, Bool.or_eq_true, bne_iff_ne, or_assoc, Ne]

/-! ### The two checks -/

/-- When SRC_CONFIG is busy (R24). -/
theorem busy_iff (e : Source) (v : Word) :
    (ConfigWrite.ofWord v).busy e = true ↔
      e.state ≠ .idle ∨
        (e.enable = true ∧ (v &&& 0xFFFFF37E#32) ≠ (e.configWord &&& 0xFFFFF37E#32)) := by
  rw [← changesOther_iff, ConfigWrite.busy, Bool.or_eq_true, Bool.and_eq_true, bne_iff_ne]

/-- The codes that a soft source takes (R26). -/
theorem Sense.soft_iff (x : Sense) : x = .levelHigh ∨ x = .rising ↔ x.code = 0#3 ∨ x.code = 2#3 := by
  cases x <;> decide

/-- The sense that a write gives a source is the one its code names, where every value is in range (R26). -/
theorem checkedSense_eq_some_iff (w : ConfigWrite) (n : SourceId) (x : Sense) :
    w.checkedSense n = some x ↔ x.code = w.senseCode ∧ (32 ≤ n.val → x = .levelHigh ∨ x = .rising) ∧
      (w.enable = true → 1 ≤ w.vector.toNat ∧ w.vector.toNat ≤ 250) := by
  unfold ConfigWrite.checkedSense
  constructor
  · intro h
    split at h
    next => cases h
    next y hy =>
      split at h
      next => cases h
      next hsoft =>
        split at h
        next => cases h
        next hvector =>
          cases h
          refine ⟨Sense.code_of_ofCode hy, fun hn => ?_, fun he => ?_⟩
          · by_contra hx
            exact hsoft ⟨hn, not_or.1 hx⟩
          · by_contra hx
            exact hvector ⟨he, hx⟩
  · rintro ⟨hcode, hsoft, hvector⟩
    rw [← hcode, Sense.ofCode_code]
    have hsoft' : ¬(32 ≤ n.val ∧ x ≠ .levelHigh ∧ x ≠ .rising) := fun ⟨hn, hx⟩ =>
      not_or.2 hx (hsoft hn)
    have hvector' : ¬((w.enable = true) ∧ ¬(1 ≤ w.vector.toNat ∧ w.vector.toNat ≤ 250)) :=
      fun ⟨he, hv⟩ => hv (hvector he)
    simp only [if_neg hsoft', if_neg hvector']

/-- A write with a value out of range gives no sense (R26). -/
theorem checkedSense_eq_none {w : ConfigWrite} {n : SourceId}
    (h : 5 ≤ w.senseCode.toNat ∨ (32 ≤ n.val ∧ w.senseCode ≠ 0#3 ∧ w.senseCode ≠ 2#3) ∨
      (w.enable = true ∧ (w.vector.toNat = 0 ∨ 250 < w.vector.toNat))) : w.checkedSense n = none := by
  rw [Option.eq_none_iff_forall_ne_some]
  intro x hx
  obtain ⟨hcode, hsoft, hvector⟩ := (checkedSense_eq_some_iff w n x).1 hx
  rcases h with h | ⟨hn, hlevel, hrising⟩ | ⟨he, hv⟩
  · rw [← hcode, ← Sense.ofCode_eq_none_iff, Sense.ofCode_code] at h
    cases h
  · rw [Sense.soft_iff, hcode] at hsoft
    exact (hsoft hn).elim hlevel hrising
  · have := hvector he
    omega

namespace State

/-- A SRC_CONFIG write to a busy source (R24). -/
theorem writeSrcConfig_busy (s : State) (v : Word)
    (h : (ConfigWrite.ofWord v).busy (s.src s.regs.srcIndex) = true) :
    s.writeSrcConfig v = s.refuse .srcConfig (BitVec.ofNat 16 s.regs.srcIndex.val) .cfgBusy := if_pos h

/-- A SRC_CONFIG write of a value out of range, to a source that is not busy (R26). -/
theorem writeSrcConfig_badValue (s : State) (v : Word)
    (h : ¬(ConfigWrite.ofWord v).busy (s.src s.regs.srcIndex) = true)
    (hnone : (ConfigWrite.ofWord v).checkedSense s.regs.srcIndex = none) :
    s.writeSrcConfig v = s.refuse .srcConfig (BitVec.ofNat 16 s.regs.srcIndex.val) .badValue := by
  simp only [writeSrcConfig, if_neg h, hnone]

/-- A SRC_CONFIG write that is taken (R27). -/
theorem writeSrcConfig_taken (s : State) (v : Word) (sense : Sense)
    (h : ¬(ConfigWrite.ofWord v).busy (s.src s.regs.srcIndex) = true)
    (hsome : (ConfigWrite.ofWord v).checkedSense s.regs.srcIndex = some sense) :
    s.writeSrcConfig v = s.takeConfig s.regs.srcIndex (ConfigWrite.ofWord v) sense := by
  simp only [writeSrcConfig, if_neg h, hsome]

end State

/-- Settles O11: `busy_iff` and `checkedSense_eq_none` read the two checks in the words of the rules. -/
theorem srcConfigIsRefusedBusyThenBadValue : Obligations.SrcConfigIsRefusedBusyThenBadValue := by
  intro s v hr n e busy bad
  rw [exec_srcConfigWrite s v hr]
  refine ⟨fun hbusy => ?_, fun hbusy hbad => ?_⟩
  · rw [s.writeSrcConfig_busy v ((busy_iff e v).2 hbusy), refuse_ready_eq]
    rfl
  · rw [s.writeSrcConfig_badValue v (hbusy ∘ (busy_iff e v).1) (checkedSense_eq_none hbad), refuse_ready_eq]
    rfl

/-! ### A write that is taken -/

/-- SRC_CONFIG as read has no bit outside its fields (R22). -/
theorem configWord_unused (e : Source) : e.configWord &&& 0xFFFFF37F#32 = e.configWord := by
  obtain ⟨-, -, -, gap, -, bit7, -⟩ := configWord_fields e
  have hunused : ∀ i : Fin 32, (0xFFFFF37F#32).getLsbD i.val = false → i = 7 ∨ i = 10 ∨ i = 11 := by decide
  refine BitVec.eq_of_getLsbD_eq fun i hi => ?_
  rw [BitVec.getLsbD_and]
  cases hbit : (0xFFFFF37F#32).getLsbD i with
  | true => rw [Bool.and_true]
  | false =>
    rw [Bool.and_false]
    have hgap (j : Nat) (hj : j < 2) : e.configWord.getLsbD (10 + j) = false := by
      have hzero := congrArg (·.getLsbD j) gap
      simpa [hj] using hzero
    rcases hunused ⟨i, hi⟩ hbit with h | h | h <;> obtain rfl := congrArg Fin.val h
    · exact bit7.symm
    · exact (hgap 0 (by decide)).symm
    · exact (hgap 1 (by decide)).symm

/-- An entry with the fields of a write reads as that write but for the unused bits (R22, R27). -/
theorem configWord_apply (e : Source) (v : Word) (sense : Sense) (h : sense.code = v.extractLsb' 1 3) :
    ((ConfigWrite.ofWord v).apply sense e).configWord = v &&& 0xFFFFF37F#32 := by
  have hword : ConfigWrite.ofWord ((ConfigWrite.ofWord v).apply sense e).configWord = ConfigWrite.ofWord v := by
    rw [ofWord_configWord]
    simp only [ConfigWrite.apply, h]
    rfl
  rw [← configWord_unused, and_configMask_iff, List.forall_mem_cons, field_one_eq_iff, configFields_eq_iff, hword]
  exact ⟨congrArg ConfigWrite.enable hword, rfl⟩

namespace State

/-- A recomputation does not touch the local bus: the access may complete first (R7). -/
theorem recomputeIfChanged_ready (s : State) (n : SourceId) (before : Source) :
    (s.recomputeIfChanged n before).ready =
      if h : n.val < 32 then
        if (s.src n).sense ≠ before.sense ∨ (s.src n).filter ≠ before.filter then
          { s.ready with
            lines := s.lines.set n.val
              { s.line ⟨n.val, h⟩ with
                accepted := (s.line ⟨n.val, h⟩).observed, interval := none } h }
        else s.ready
      else s.ready := by
  unfold recomputeIfChanged
  split
  · exact apply_ite State.ready _ _ _
  · rfl

@[simp] theorem recomputeIfChanged_src (s : State) (n m : SourceId) (before : Source) :
    (s.recomputeIfChanged n before).src m = s.src m := by
  unfold recomputeIfChanged
  split
  · split <;> rfl
  · rfl

@[simp] theorem recomputeIfChanged_regs (s : State) (n : SourceId) (before : Source) :
    (s.recomputeIfChanged n before).regs = s.regs := by
  unfold recomputeIfChanged
  split
  · split <;> rfl
  · rfl

@[simp] theorem checked_regs (s : State) (n : SourceId) (resent : Bool) :
    (s.checked n resent).regs = s.regs := (apply_ite State.regs _ _ _).trans (ite_self _)

/-- A message placed changes the STATE of its source alone (R41, R70). -/
theorem placed_src (s : State) (m : Message) (n : SourceId) :
    (s.placed m).src n = if n = m.source then { s.src n with state := .queued } else s.src n := by
  refine (setSrc_src s m.source n _).trans ?_
  split
  next h => rw [h]
  next => rfl

/-- A re-evaluation changes no field of SRC_CONFIG. -/
theorem checked_configWord (s : State) (n : SourceId) (resent : Bool) :
    ((s.checked n resent).src n).configWord = (s.src n).configWord := by
  unfold checked
  split
  · rw [placed_src]
    split <;> rfl
  · rfl

/-- What SRC_CONFIG reads once a write is taken, re-evaluation included (R22, R27). -/
theorem takeConfig_configWord (s : State) (n : SourceId) (w : ConfigWrite) (sense : Sense) :
    ((s.takeConfig n w sense).src n).configWord = (w.apply sense (s.src n)).configWord := by
  unfold takeConfig
  split
  · rw [reevaluate_eq, checked_configWord, recomputeIfChanged_src, setSrc_src_self]
  · rw [recomputeIfChanged_src, setSrc_src_self]

@[simp] theorem takeConfig_regs (s : State) (n : SourceId) (w : ConfigWrite) (sense : Sense) :
    (s.takeConfig n w sense).regs = s.regs := by
  unfold takeConfig
  split
  · rw [reevaluate_eq, checked_regs, recomputeIfChanged_regs, setSrc_regs]
  · rw [recomputeIfChanged_regs, setSrc_regs]

/-- A SRC_CONFIG write that is taken, with the access complete. -/
theorem takeConfig_ready (s : State) (n : SourceId) (w : ConfigWrite) (sense : Sense) :
    (s.takeConfig n w sense).ready =
      (let t := ((s.setSrc n (w.apply sense (s.src n))).recomputeIfChanged n (s.src n)).ready
      if (s.src n).enable = false ∧ w.enable = true then t.checked n false else t) := by
  simp only [takeConfig, reevaluate_eq, Bool.and_eq_true, Bool.not_eq_true', apply_ite State.ready, checked_ready]

end State

/-- Settles O12: the write is taken, its recomputation and re-evaluation commute with the completion of the
access, and the fields read back are those of `configWord_apply`. -/
theorem srcConfigReplacesFieldsAndReevaluates : Obligations.SrcConfigReplacesFieldsAndReevaluates := by
  intro s v sense hr n e hidle hother hcode hsoft hvector stored sampled t
  have hfree : ¬(ConfigWrite.ofWord v).busy e = true := by
    rw [busy_iff, not_or, not_and, not_not, not_not]
    exact ⟨hidle, hother⟩
  have hsense : (ConfigWrite.ofWord v).checkedSense n = some sense :=
    (checkedSense_eq_some_iff _ n sense).2 ⟨hcode, hsoft, hvector⟩
  have hsampled : ((s.setSrc n ((ConfigWrite.ofWord v).apply sense e)).recomputeIfChanged n e).ready =
      sampled := by
    rw [State.recomputeIfChanged_ready, State.setSrc_src_self]
    rfl
  have hnext : (s.writeSrcConfig v).ready = t := by
    rw [s.writeSrcConfig_taken v sense hfree hsense, State.takeConfig_ready, hsampled]
    rfl
  refine ⟨by rw [exec_srcConfigWrite s v hr, hnext], ?_⟩
  rw [← hnext, s.writeSrcConfig_taken v sense hfree hsense]
  change ((s.takeConfig n _ sense).src (s.takeConfig n _ sense).regs.srcIndex).configWord = _
  rw [State.takeConfig_regs, State.takeConfig_configWord, configWord_apply _ v sense hcode]

end Sys2Proof.Machine
end

section
/-! PROOFS. Mask requests (R29 to R31): what a write that names several sources makes of the Source Table and of
the Event Queue. -/

namespace Sys2Proof.Machine

theorem exec_maskSetLo (s : State) (v : Word) (h : s.resetting = none) :
    exec (.maskSetLo v) s = .next (s.maskSetAll (sourcesLo v)).ready :=
  congrArg _ (s.onBus_none _ (fun u => u.maskSetAll (sourcesLo v)) h)

theorem exec_maskSetHi (s : State) (v : Word) (h : s.resetting = none) :
    exec (.maskSetHi v) s = .next (s.maskSetAll (sourcesHi v)).ready :=
  congrArg _ (s.onBus_none _ (fun u => u.maskSetAll (sourcesHi v)) h)

theorem exec_maskClrLo (s : State) (v : Word) (h : s.resetting = none) :
    exec (.maskClrLo v) s = .next (s.maskClearAll (sourcesLo v)).ready :=
  congrArg _ (s.onBus_none _ (fun u => u.maskClearAll (sourcesLo v)) h)

theorem exec_maskClrHi (s : State) (v : Word) (h : s.resetting = none) :
    exec (.maskClrHi v) s = .next (s.maskClearAll (sourcesHi v)).ready :=
  congrArg _ (s.onBus_none _ (fun u => u.maskClearAll (sourcesHi v)) h)

/-! ### The sources that a write names (R29) -/

theorem lineSource_injective : Function.Injective lineSource := fun a b h => by
  have hval : (lineSource a).val = (lineSource b).val := congrArg Fin.val h
  exact Fin.ext hval

theorem softSource_injective : Function.Injective softSource := fun a b h => by
  have hval : (softSource a).val = (softSource b).val := congrArg Fin.val h
  exact Fin.ext (Nat.add_left_cancel hval)

/-- A list names the sources of a predicate, each once. -/
structure Names (ns : List SourceId) (named : SourceId → Bool) : Prop where
  nodup : ns.Nodup
  mem : ∀ n, n ∈ ns ↔ named n = true

theorem names_sourcesLo (v : Word) :
    Names (sourcesLo v) fun n => decide (n.val < 32) && v.getLsbD n.val := by
  refine ⟨((List.nodup_finRange 32).filter _).map lineSource_injective, fun n => ?_⟩
  rw [sourcesLo, List.mem_map, Bool.and_eq_true, decide_eq_true_eq]
  constructor
  · rintro ⟨l, hl, rfl⟩
    exact ⟨l.isLt, (List.mem_filter.1 hl).2⟩
  · rintro ⟨hn, hv⟩
    exact ⟨⟨n.val, hn⟩, List.mem_filter.2 ⟨List.mem_finRange _, hv⟩, rfl⟩

theorem names_sourcesHi (v : Word) :
    Names (sourcesHi v) fun n => decide (32 ≤ n.val) && v.getLsbD (n.val - 32) := by
  refine ⟨((List.nodup_finRange 8).filter _).map softSource_injective, fun n => ?_⟩
  rw [sourcesHi, List.mem_map, Bool.and_eq_true, decide_eq_true_eq]
  constructor
  · rintro ⟨k, hk, rfl⟩
    have hval : (softSource k).val - 32 = k.val := Nat.add_sub_cancel_left ..
    exact ⟨Nat.le_add_right .., hval ▸ (List.mem_filter.1 hk).2⟩
  · rintro ⟨hn, hv⟩
    exact ⟨⟨n.val - 32, by omega⟩, List.mem_filter.2 ⟨List.mem_finRange _, hv⟩,
      Fin.ext (Nat.add_sub_cancel' hn)⟩

theorem nodup_allSources : allSources.Nodup := List.nodup_finRange 40

theorem mem_allSources (n : SourceId) : n ∈ allSources := List.mem_finRange n

/-- Counting among the named sources is counting along the list that names them. -/
theorem Names.countP_eq {ns : List SourceId} {named : SourceId → Bool} (h : Names ns named)
    (p : SourceId → Bool) : (allSources.countP fun n => named n && p n) = ns.countP p := by
  have hperm : (allSources.filter named).Perm ns :=
    (List.perm_ext_iff_of_nodup (nodup_allSources.filter _) h.nodup).2 fun n => by
      rw [List.mem_filter, h.mem, and_iff_right (mem_allSources n)]
  rw [← hperm.countP_eq, List.countP_filter]
  exact List.countP_congr fun n _ => by rw [Bool.and_comm]

/-! ### Mask set requests (R30) -/

/-- The entry of a source after a mask set request. -/
def Source.masked (e : Source) : Source :=
  { e with
    mask := true, pending := 0, pendOvr := false, state := if e.state = .queued then .idle else e.state }

theorem Source.masked_masked (e : Source) : e.masked.masked = e.masked := by
  unfold Source.masked
  by_cases h : e.state = .queued <;> simp [h]

/-- A masked source is not QUEUED (R39). -/
theorem Source.masked_state_ne (e : Source) : e.masked.state ≠ .queued := by
  unfold Source.masked
  by_cases h : e.state = .queued <;> simp [h]

namespace State

/-- From s to t, entries and the Event Queue change, `k` withdrawals are counted, and nothing else changes. -/
def Withdrew (s t : State) (k : Nat) : Prop :=
  t = { s.withWithdrawn k with sources := t.sources, queue := t.queue }

theorem Withdrew.zero {s t : State} (h : t = { s with sources := t.sources, queue := t.queue }) :
    Withdrew s t 0 := by
  rw [Withdrew, withWithdrawn, saturate32_zero]
  exact h

theorem Withdrew.trans {s t u : State} {j k : Nat} (h : Withdrew s t j) (h' : Withdrew t u k) :
    Withdrew s u (j + k) := by
  have hk : t.withWithdrawn k = { s.withWithdrawn (j + k) with sources := t.sources, queue := t.queue } := by
    rw [h]
    simp only [withWithdrawn, saturate32_add]
  exact Eq.trans h' (congrArg (fun x : State => { x with sources := u.sources, queue := u.queue }) hk)

/-- What one mask set request makes of the entries. -/
theorem maskSet_src (s : State) (n m : SourceId) :
    (s.maskSet n).src m = if m = n then (s.src m).masked else s.src m := by
  by_cases hq : (s.src n).state = .queued
  · rcases eq_or_ne m n with rfl | hm
    · simp [maskSet, withdrawSource, count, countN, hq, Source.masked]
    · simp [maskSet, withdrawSource, count, countN, hq, setSrc_src_ne _ _ _ _ hm, hm]
  · rcases eq_or_ne m n with rfl | hm
    · simp [maskSet, hq, Source.masked]
    · simp [maskSet, hq, setSrc_src_ne _ _ _ _ hm, hm]

/-- What one mask set request makes of the Event Queue. -/
theorem maskSet_queue (s : State) (n : SourceId) :
    (s.maskSet n).queue = s.queue.map fun c => c.filter fun m =>
      !(decide (m.source = n) && decide ((s.src n).state = .queued)) := by
  by_cases hq : (s.src n).state = .queued
  · simp [maskSet, withdrawSource, count, countN, hq, EventQueue.withdraw]
  · simp [maskSet, hq]

/-- One mask set request withdraws the message of a QUEUED source. -/
theorem maskSet_withdrew (s : State) (n : SourceId) :
    Withdrew s (s.maskSet n) (if (s.src n).state = .queued then 1 else 0) := by
  rw [maskSet_eq]
  by_cases hq : (s.src n).state = .queued
  · rw [if_pos hq, if_pos hq]
    rfl
  · rw [if_neg hq, if_neg hq]
    exact Withdrew.zero rfl

theorem maskSetAll_cons (s : State) (n : SourceId) (ns : List SourceId) :
    s.maskSetAll (n :: ns) = (s.maskSet n).maskSetAll ns := rfl

/-- What the mask set requests of one write make of the entries. -/
theorem maskSetAll_src (s : State) (ns : List SourceId) (m : SourceId) :
    (s.maskSetAll ns).src m = if m ∈ ns then (s.src m).masked else s.src m := by
  induction ns generalizing s with
  | nil => rfl
  | cons n ns ih =>
    rw [maskSetAll_cons, ih, maskSet_src]
    by_cases hn : m = n
    · simp [hn, Source.masked_masked]
    · simp [hn]

/-- What the mask set requests of one write make of the Event Queue. -/
theorem maskSetAll_queue (s : State) (ns : List SourceId) :
    (s.maskSetAll ns).queue = s.queue.map fun c => c.filter fun m =>
      !(decide (m.source ∈ ns) && decide ((s.src m.source).state = .queued)) := by
  induction ns generalizing s with
  | nil => simp [maskSetAll]
  | cons n ns ih =>
    have hmsg (m : Message) : (!(decide (m.source = n) && decide ((s.src n).state = .queued)) &&
        !(decide (m.source ∈ ns) && decide (((s.maskSet n).src m.source).state = .queued))) =
        !(decide (m.source ∈ n :: ns) && decide ((s.src m.source).state = .queued)) := by
      rw [maskSet_src]
      by_cases hn : m.source = n
      · simp [hn, Source.masked_state_ne]
      · simp [hn]
    rw [maskSetAll_cons, ih, maskSet_queue, Vector.map_map]
    refine congrArg (s.queue.map ·) (funext fun c => ?_)
    rw [Function.comp_apply, List.filter_filter]
    exact List.filter_congr fun m _ => by rw [Bool.and_comm, hmsg]

/-- The mask set requests of one write withdraw the messages of the QUEUED sources among those named. -/
theorem maskSetAll_withdrew (s : State) (ns : List SourceId) (h : ns.Nodup) :
    Withdrew s (s.maskSetAll ns) (ns.countP fun n => decide ((s.src n).state = .queued)) := by
  induction ns generalizing s with
  | nil => exact Withdrew.zero rfl
  | cons n ns ih =>
    obtain ⟨hn, hns⟩ := List.nodup_cons.1 h
    have hcount : (ns.countP fun m => decide (((s.maskSet n).src m).state = .queued)) =
        ns.countP fun m => decide ((s.src m).state = .queued) :=
      List.countP_congr fun m hm => by rw [maskSet_src, if_neg (ne_of_mem_of_not_mem hm hn)]
    rw [maskSetAll_cons, List.countP_cons, Nat.add_comm, ← hcount]
    simp only [decide_eq_true_eq]
    exact (s.maskSet_withdrew n).trans (ih (s.maskSet n) hns)

end State

/-- Mask set requests for named sources, with the access complete. -/
theorem maskSetAll_outcome (s : State) {ns : List SourceId} {named : SourceId → Bool} (h : Names ns named) :
    MaskSetOutcome s (s.maskSetAll ns).ready named where
  sources n := by
    rw [State.ready_src, State.maskSetAll_src]
    exact if_congr (h.mem n) rfl rfl
  queue := by
    refine (s.maskSetAll_queue ns).trans (congrArg (s.queue.map ·) (funext fun c => ?_))
    exact List.filter_congr fun m _ => by simp only [h.mem, Bool.decide_eq_true]
  rest := by
    rw [h.countP_eq fun n => decide ((s.src n).state = .queued)]
    exact congrArg State.ready (s.maskSetAll_withdrew ns h.nodup)

/-- Settles O13: the two writes name sources by their own ranges and are otherwise one operation. -/
theorem maskSetWithdrawsQueuedSources : Obligations.MaskSetWithdrawsQueuedSources := by
  intro s v hr
  exact ⟨⟨_, exec_maskSetLo s v hr, maskSetAll_outcome s (names_sourcesLo v)⟩,
    ⟨_, exec_maskSetHi s v hr, maskSetAll_outcome s (names_sourcesHi v)⟩⟩

/-! ### Mask clear requests (R31) -/

namespace State

/-- Each named MASK becomes 0, before any source is re-evaluated. -/
def unmaskAll (s : State) (ns : List SourceId) : State :=
  ns.foldl (fun t n => t.setSrc n { t.src n with mask := false }) s

/-- Sources re-evaluated in turn (R23). -/
def reevaluateAll (s : State) (ns : List SourceId) : State := ns.foldl (fun t n => t.reevaluate n false) s

theorem maskClearAll_eq (s : State) (ns : List SourceId) :
    s.maskClearAll ns =
      ((s.unmaskAll ns).reevaluateAll ((s.unmaskAll ns).raiseOrder ns)).setFreeCount (s.freeCount + 1) := rfl

theorem unmaskAll_src (s : State) (ns : List SourceId) (m : SourceId) :
    (s.unmaskAll ns).src m = if m ∈ ns then { s.src m with mask := false } else s.src m := by
  induction ns generalizing s with
  | nil => rfl
  | cons n ns ih =>
    have hcons : s.unmaskAll (n :: ns) = (s.setSrc n { s.src n with mask := false }).unmaskAll ns := rfl
    rw [hcons, ih, setSrc_src]
    by_cases hn : m = n
    · subst hn
      simp
    · simp [hn]

theorem unmaskAll_rest (s : State) (ns : List SourceId) :
    s.unmaskAll ns = { s with sources := (s.unmaskAll ns).sources } := by
  induction ns generalizing s with
  | nil => rfl
  | cons n ns ih => exact ih (s.setSrc n { s.src n with mask := false })

/-- The qualified level depends on the line, the soft level bit and SENSE (R4, R10). -/
theorem qualified_congr {s t : State} {n : SourceId} (hlines : t.lines = s.lines)
    (hsoft : t.softLevels = s.softLevels) (hsense : (t.src n).sense = (s.src n).sense) :
    t.qualified n = s.qualified n := by
  simp only [qualified, line, softLevel, hlines, hsoft, hsense]

theorem levelMessage_congr {s t : State} {n : SourceId} (h : t.src n = s.src n) (resent : Bool) :
    t.levelMessage n resent = s.levelMessage n resent := by
  simp only [levelMessage, h]

/-- What a message placed makes of the queue (R70). -/
theorem placed_queue (s : State) (m : Message) (c : Fin 4) :
    (s.placed m).queue[c.val] = s.queue[c.val] ++ if m.prio = c then [m] else [] := by
  simp only [placed, Vector.getElem_set, Fin.ext_iff]
  split
  next h => simp only [h]
  next => rw [List.append_nil]

/-- From s to t the sources of a list are QUEUED, their messages appended in its order, and nothing else
changes (R23, R70). -/
structure Raised (s t : State) (ns : List SourceId) : Prop where
  src : ∀ m, t.src m = if m ∈ ns then { s.src m with state := .queued } else s.src m
  queue : ∀ c : Fin 4, t.queue[c.val] = s.queue[c.val] ++
    (ns.filter fun n => decide ((s.src n).prio = c)).map fun n => s.levelMessage n false
  rest : t = { s with sources := t.sources, queue := t.queue }

/-- Re-evaluation in turn of sources that all meet R23 raises them in that order: a message placed for one
source changes nothing that the re-evaluation of another reads. -/
theorem reevaluateAll_raised (s : State) (ns : List SourceId) (hnodup : ns.Nodup)
    (hasserts : ∀ n ∈ ns, s.asserts n) : Raised s (s.reevaluateAll ns) ns := by
  induction ns generalizing s with
  | nil => exact ⟨fun _ => rfl, fun _ => (List.append_nil _).symm, rfl⟩
  | cons n ns ih =>
    obtain ⟨hn, hns⟩ := List.nodup_cons.1 hnodup
    have hcons : s.reevaluateAll (n :: ns) = (s.placed (s.levelMessage n false)).reevaluateAll ns := by
      change (s.reevaluate n false).reevaluateAll ns = _
      rw [reevaluate_eq, checked, if_pos (hasserts n List.mem_cons_self)]
    have hsrc {m : SourceId} (hm : m ∈ ns) : (s.placed (s.levelMessage n false)).src m = s.src m := by
      rw [placed_src]
      exact if_neg (ne_of_mem_of_not_mem hm hn)
    obtain ⟨src, queue, rest⟩ := ih (s.placed (s.levelMessage n false)) hns fun m hm => by
      have hqualified : (s.placed (s.levelMessage n false)).qualified m = s.qualified m :=
        qualified_congr rfl rfl (congrArg Source.sense (hsrc hm))
      rw [asserts, hsrc hm, hqualified]
      exact hasserts m (List.mem_cons_of_mem n hm)
    rw [hcons]
    refine ⟨fun m => ?_, fun c => ?_, rest⟩
    · rw [src m]
      by_cases hm : m ∈ ns
      · rw [if_pos hm, hsrc hm, if_pos (List.mem_cons_of_mem n hm)]
      · rw [if_neg hm, placed_src]
        exact if_congr (by simp [hm, levelMessage]) rfl rfl
    · have hclass : (ns.filter fun m => decide (((s.placed (s.levelMessage n false)).src m).prio = c)) =
          ns.filter fun m => decide ((s.src m).prio = c) :=
        List.filter_congr fun m hm => by rw [hsrc hm]
      have hmessages : ((ns.filter fun m => decide ((s.src m).prio = c)).map fun m =>
            (s.placed (s.levelMessage n false)).levelMessage m false) =
          (ns.filter fun m => decide ((s.src m).prio = c)).map fun m => s.levelMessage m false :=
        List.map_congr_left fun m hm => levelMessage_congr (hsrc (List.mem_filter.1 hm).1) false
      rw [queue c, hclass, hmessages, placed_queue, List.append_assoc, List.filter_cons]
      by_cases hc : (s.src n).prio = c <;> simp [hc, levelMessage]

/-! ### The free order of one write -/

/-- The sources of a list that re-evaluation raises are those in IDLE that meet R23. -/
theorem mem_raiseOrder (s : State) (ns : List SourceId) (n : SourceId) :
    n ∈ s.raiseOrder ns ↔ n ∈ ns ∧ (s.src n).state = .idle ∧ s.asserts n := by
  have hclass : ∀ c : Fin 4, c ∈ ([3, 2, 1, 0] : List (Fin 4)) := by decide
  simp only [raiseOrder, List.mem_flatMap, (List.perm_insertionSort _ _).mem_iff, List.mem_filter,
    Bool.and_eq_true, decide_eq_true_eq, raisable_iff]
  exact ⟨fun ⟨_, _, hn, ⟨hidle, ha⟩, _⟩ => ⟨hn, hidle, ha⟩,
    fun ⟨hn, hidle, ha⟩ => ⟨_, hclass _, hn, ⟨hidle, ha⟩, rfl⟩⟩

/-- Each source is raised once: it stands in its own class alone. -/
theorem nodup_raiseOrder (s : State) (ns : List SourceId) (h : ns.Nodup) : (s.raiseOrder ns).Nodup := by
  refine List.nodup_flatMap.2 ⟨fun c _ => ?_, ?_⟩
  · exact (List.perm_insertionSort _ _).nodup_iff.2 (h.filter _)
  · have hclasses : ([3, 2, 1, 0] : List (Fin 4)).Nodup := by decide
    refine hclasses.imp fun {c d} hcd n hc hd => hcd ?_
    rw [(List.perm_insertionSort _ _).mem_iff, List.mem_filter, Bool.and_eq_true, decide_eq_true_eq] at hc hd
    exact hc.2.2.symm.trans hd.2.2

/-! ### What clearing MASK leaves as it was -/

theorem unmaskAll_qualified (s : State) (ns : List SourceId) (n : SourceId) :
    (s.unmaskAll ns).qualified n = s.qualified n := by
  rw [unmaskAll_rest]
  refine qualified_congr rfl rfl ?_
  rw [← unmaskAll_rest, unmaskAll_src]
  split <;> rfl

theorem unmaskAll_prio (s : State) (ns : List SourceId) (n : SourceId) :
    ((s.unmaskAll ns).src n).prio = (s.src n).prio := by
  rw [unmaskAll_src]
  split <;> rfl

theorem unmaskAll_levelMessage (s : State) (ns : List SourceId) (n : SourceId) (resent : Bool) :
    (s.unmaskAll ns).levelMessage n resent = s.levelMessage n resent := by
  rw [levelMessage, levelMessage, unmaskAll_src]
  split <;> rfl

/-- The sources that one write raises: those named that are IDLE, enabled, of class LEVEL and asserted (R31). -/
theorem mem_raiseOrder_unmaskAll (s : State) (ns : List SourceId) (n : SourceId) :
    n ∈ (s.unmaskAll ns).raiseOrder ns ↔ n ∈ ns ∧ (s.src n).state = .idle ∧ (s.src n).enable = true ∧
      (s.src n).sense.isLevel = true ∧ s.qualified n = true := by
  rw [mem_raiseOrder, asserts, unmaskAll_src, unmaskAll_qualified]
  by_cases hn : n ∈ ns <;> simp [hn]

end State

/-- Mask clear requests for named sources, with the access complete. The order in which one write appends to a
class is that of `raiseOrder`, of which only its members are used (R70, assumption log 8). -/
theorem maskClearAll_outcome (s : State) {ns : List SourceId} {named : SourceId → Bool} (h : Names ns named) :
    MaskClearOutcome s (s.maskClearAll ns).ready named := by
  rw [s.maskClearAll_eq]
  have hnodup := (s.unmaskAll ns).nodup_raiseOrder ns h.nodup
  have horder := s.mem_raiseOrder_unmaskAll ns
  obtain ⟨src, queue, rest⟩ := (s.unmaskAll ns).reevaluateAll_raised _ hnodup
    fun n hn => (((s.unmaskAll ns).mem_raiseOrder ns n).1 hn).2.2
  have hqueue : (s.unmaskAll ns).queue = s.queue := by rw [State.unmaskAll_rest]
  simp only [hqueue, State.unmaskAll_prio, State.unmaskAll_levelMessage] at queue
  generalize (s.unmaskAll ns).raiseOrder ns = order at *
  refine ⟨fun n => (src n).trans ?sources, fun c => ⟨_, queue c, List.Perm.map _ ?perm⟩, ?rest⟩
  case sources =>
    rw [State.unmaskAll_src]
    by_cases hn : n ∈ ns
    · rw [if_pos hn, if_pos ((h.mem n).1 hn)]
      by_cases ho : n ∈ order
      · rw [if_pos ho, if_pos ((horder n).1 ho).2]
      · rw [if_neg ho, if_neg fun hc => ho ((horder n).2 ⟨hn, hc⟩)]
    · rw [if_neg hn, if_neg (hn ∘ (h.mem n).2), if_neg fun ho => hn ((horder n).1 ho).1]
  case perm =>
    refine (List.perm_ext_iff_of_nodup (hnodup.filter _) (nodup_allSources.filter _)).2 fun n => ?_
    simp only [List.mem_filter, horder, h.mem, mem_allSources, Bool.and_eq_true, decide_eq_true_eq, true_and,
      and_assoc]
  case rest =>
    rw [rest, State.unmaskAll_rest]
    rfl

/-- Settles O14: the two writes name sources by their own ranges and are otherwise one operation. -/
theorem maskClearReevaluatesIdleSources : Obligations.MaskClearReevaluatesIdleSources := by
  intro s v hr
  exact ⟨⟨_, exec_maskClrLo s v hr, maskClearAll_outcome s (names_sourcesLo v)⟩,
    ⟨_, exec_maskClrHi s v hr, maskClearAll_outcome s (names_sourcesHi v)⟩⟩

end Sys2Proof.Machine
end

section
/-! PROOFS. The registers that their own writes alone change (R21, R159, R182, R185): `State.settings` reads them
from a state, and every operation of the model but those writes and the resets leaves that view as it was. -/

namespace Sys2Proof.Machine

/-- SRC_INDEX, LINK_CFG, CAUSE_EN and the note staging registers. -/
structure Settings where
  srcIndex : SourceId
  linkCfg : LinkCfg
  causeEn : BitVec 8
  outTag : Byte
  outLength : BitVec 4
  outData0 : Word
  outData1 : Word

namespace State

/-- The values that the registers of `Settings` hold. -/
def settings (s : State) : Settings :=
  { srcIndex := s.regs.srcIndex, linkCfg := s.regs.linkCfg, causeEn := s.regs.causeEn, outTag := s.notes.outTag,
    outLength := s.notes.outLength, outData0 := s.notes.outData0, outData1 := s.notes.outData1 }

theorem settings_ite {s t u : State} {c : Prop} [Decidable c] (ht : t.settings = s.settings)
    (hu : u.settings = s.settings) : (if c then t else u).settings = s.settings := by
  split
  · exact ht
  · exact hu

theorem settings_foldl {α : Type} {f : State → α → State} (h : ∀ t a, (f t a).settings = t.settings)
    (as : List α) (s : State) : (as.foldl f s).settings = s.settings := by
  induction as generalizing s with
  | nil => rfl
  | cons a as ih => exact (ih (f s a)).trans (h s a)

/-! ### The named updates -/

@[simp] theorem setBus_settings (s : State) (v : Bus) : (s.setBus v).settings = s.settings := rfl
@[simp] theorem setFreeCount_settings (s : State) (v : Nat) : (s.setFreeCount v).settings = s.settings := rfl
@[simp] theorem setLine_settings (s : State) (l : LineId) (v : Line) :
    (s.setLine l v).settings = s.settings := rfl
@[simp] theorem setSoftLevel_settings (s : State) (k : SoftId) (v : Bool) :
    (s.setSoftLevel k v).settings = s.settings := rfl
@[simp] theorem setSrc_settings (s : State) (n : SourceId) (v : Source) :
    (s.setSrc n v).settings = s.settings := rfl
@[simp] theorem setDelivered_settings (s : State) (v : List SourceId) :
    (s.setDelivered v).settings = s.settings := rfl
@[simp] theorem setArbiter_settings (s : State) (v : Arbiter) : (s.setArbiter v).settings = s.settings := rfl
@[simp] theorem setTx_settings (s : State) (v : Option Item) : (s.setTx v).settings = s.settings := rfl
@[simp] theorem setWindow_settings (s : State) (v : Window) : (s.setWindow v).settings = s.settings := rfl
@[simp] theorem setReceiver_settings (s : State) (v : Receiver) : (s.setReceiver v).settings = s.settings := rfl
@[simp] theorem setSession_settings (s : State) (v : Session) : (s.setSession v).settings = s.settings := rfl
@[simp] theorem setReplies_settings (s : State) (v : List Reply) : (s.setReplies v).settings = s.settings := rfl

@[simp] theorem setQueue_settings (s : State) (v : EventQueue) : (s.setQueue v).settings = s.settings := rfl
@[simp] theorem setSources_settings (s : State) (v : Vector Source 40) :
    (s.setSources v).settings = s.settings := rfl

/-- A write of the Register Window's state that leaves SRC_INDEX, LINK_CFG and CAUSE_EN alone. -/
theorem setRegs_settings (s : State) (v : Registers) (hindex : v.srcIndex = s.regs.srcIndex := by rfl)
    (hcfg : v.linkCfg = s.regs.linkCfg := by rfl) (hen : v.causeEn = s.regs.causeEn := by rfl) :
    (s.setRegs v).settings = s.settings := by
  simp only [settings, setRegs_regs, setRegs_notes, hindex, hcfg, hen]

/-! ### Flags, Event Queue and reports -/

@[simp] theorem raiseFlag_settings (s : State) (f : CauseFlag) : (s.raiseFlag f).settings = s.settings := rfl
@[simp] theorem count_settings (s : State) (c : Counter) : (s.count c).settings = s.settings := rfl
@[simp] theorem refuse_settings (s : State) (r : Request) (operand : BitVec 16) (reason : RefuseReason) :
    (s.refuse r operand reason).settings = s.settings := rfl
@[simp] theorem queueTail_settings (s : State) (n : SourceId) (count : Byte) (overrun resent : Bool) :
    (s.queueTail n count overrun resent).settings = s.settings := rfl
@[simp] theorem queueFront_settings (s : State) (n : SourceId) (count : Byte) (overrun : Bool) :
    (s.queueFront n count overrun).settings = s.settings := rfl
@[simp] theorem withdrawSource_settings (s : State) (n : SourceId) :
    (s.withdrawSource n).settings = s.settings := rfl

@[simp] theorem reevaluate_settings (s : State) (n : SourceId) (resent : Bool) :
    (s.reevaluate n resent).settings = s.settings := settings_ite rfl rfl

@[simp] theorem coalesce_settings (s : State) (n : SourceId) : (s.coalesce n).settings = s.settings := by
  unfold coalesce
  cases s.messageOf n with
  | none => rfl
  | some m => exact settings_ite rfl rfl

@[simp] theorem countPending_settings (s : State) (n : SourceId) :
    (s.countPending n).settings = s.settings := settings_ite rfl rfl

@[simp] theorem edgeEvent_settings (s : State) (n : SourceId) : (s.edgeEvent n).settings = s.settings := by
  refine settings_ite ?_ rfl
  cases (s.src n).state with
  | idle => rfl
  | queued => exact coalesce_settings s n
  | sent => exact countPending_settings s n
  | delivered => rfl
  | holdoff => exact countPending_settings s n

@[simp] theorem levelChange_settings (s : State) (n : SourceId) (asserted : Bool) :
    (s.levelChange n asserted).settings = s.settings := by
  refine settings_ite ?_ rfl
  cases (s.src n).state with
  | idle => exact settings_ite rfl rfl
  | queued => exact settings_ite rfl rfl
  | sent => rfl
  | delivered => rfl
  | holdoff => rfl

@[simp] theorem reportAcceptance_settings (s : State) (n : SourceId) (rising : Bool) :
    (s.reportAcceptance n rising).settings = s.settings := by
  unfold reportAcceptance
  cases (s.src n).sense with
  | levelHigh => exact levelChange_settings s n rising
  | levelLow => exact levelChange_settings s n (!rising)
  | rising => exact settings_ite (edgeEvent_settings s n) rfl
  | falling => exact settings_ite rfl (edgeEvent_settings s n)
  | anyEdge => exact edgeEvent_settings s n

/-! ### Lines and soft requests -/

@[simp] theorem acceptLine_settings (s : State) (l : LineId) : (s.acceptLine l).settings = s.settings :=
  settings_ite rfl (reportAcceptance_settings _ _ _)

@[simp] theorem observe_settings (s : State) (l : LineId) (level : Bool) :
    (s.observe l level).settings = s.settings :=
  settings_ite rfl (settings_ite (acceptLine_settings _ l) (settings_ite rfl rfl))

@[simp] theorem intervalExpiry_settings (s : State) (l : LineId) : (s.intervalExpiry l).settings = s.settings :=
  settings_ite (acceptLine_settings s l) rfl

@[simp] theorem raiseSoft_settings (s : State) (k : SoftId) : (s.raiseSoft k).settings = s.settings :=
  settings_ite (settings_ite rfl (levelChange_settings _ _ _)) (edgeEvent_settings s _)

@[simp] theorem lowerSoft_settings (s : State) (k : SoftId) : (s.lowerSoft k).settings = s.settings :=
  settings_ite (settings_ite (levelChange_settings _ _ _) rfl) rfl

theorem softRequest_settings (s : State) (r : Request) (v : Word) (take : SoftId → State)
    (h : ∀ k, (take k).settings = s.settings) : (s.softRequest r v take).settings = s.settings := by
  unfold softRequest
  split
  · rfl
  · split
    · exact h _
    · rfl

/-! ### Source Table -/

@[simp] theorem maskSet_settings (s : State) (n : SourceId) : (s.maskSet n).settings = s.settings :=
  settings_ite rfl rfl

@[simp] theorem maskClear_settings (s : State) (n : SourceId) : (s.maskClear n).settings = s.settings :=
  settings_ite (reevaluate_settings _ n false) rfl

@[simp] theorem maskSetAll_settings (s : State) (ns : List SourceId) :
    (s.maskSetAll ns).settings = s.settings :=
  settings_foldl maskSet_settings ns s

@[simp] theorem unmaskAll_settings (s : State) (ns : List SourceId) :
    (s.unmaskAll ns).settings = s.settings := by
  rw [unmaskAll_rest]
  rfl

@[simp] theorem maskClearAll_settings (s : State) (ns : List SourceId) :
    (s.maskClearAll ns).settings = s.settings :=
  (settings_foldl (fun t n => reevaluate_settings t n false) _ (s.unmaskAll ns)).trans (unmaskAll_settings s ns)

@[simp] theorem flushPending_settings (s : State) (n : SourceId) : (s.flushPending n).settings = s.settings :=
  settings_ite rfl rfl

@[simp] theorem ackSource_settings (s : State) (n : SourceId) : (s.ackSource n).settings = s.settings :=
  settings_ite rfl (settings_ite rfl (flushPending_settings s n))

@[simp] theorem releaseSource_settings (s : State) (n : SourceId) : (s.releaseSource n).settings = s.settings :=
  settings_ite rfl (reevaluate_settings _ n false)

@[simp] theorem abandonSource_settings (s : State) (n : SourceId) : (s.abandonSource n).settings = s.settings :=
  reevaluate_settings _ n true

@[simp] theorem requeueSource_settings (s : State) (n : SourceId) (count : Byte) (overrun : Bool) :
    (s.requeueSource n count overrun).settings = s.settings :=
  settings_ite (settings_ite rfl rfl) (settings_ite rfl (settings_ite rfl rfl))

@[simp] theorem holdoffExpiry_settings (s : State) (n : SourceId) : (s.holdoffExpiry n).settings = s.settings :=
  settings_ite (settings_ite (reevaluate_settings _ n false) (flushPending_settings _ n)) rfl

@[simp] theorem recomputeIfChanged_settings (s : State) (n : SourceId) (before : Source) :
    (s.recomputeIfChanged n before).settings = s.settings := by
  unfold recomputeIfChanged
  split
  · exact settings_ite rfl rfl
  · rfl

@[simp] theorem takeConfig_settings (s : State) (n : SourceId) (w : ConfigWrite) (sense : Sense) :
    (s.takeConfig n w sense).settings = s.settings := by
  have hrecomputed : ((s.setSrc n (w.apply sense (s.src n))).recomputeIfChanged n (s.src n)).settings =
      s.settings := recomputeIfChanged_settings _ n _
  exact settings_ite ((reevaluate_settings _ n false).trans hrecomputed) hrecomputed

@[simp] theorem writeSrcConfig_settings (s : State) (v : Word) :
    (s.writeSrcConfig v).settings = s.settings := by
  refine settings_ite rfl ?_
  split
  · rfl
  · exact takeConfig_settings s _ _ _

@[simp] theorem forceIdle_settings (s : State) (op : Byte) : (s.forceIdle op).settings = s.settings := by
  unfold forceIdle
  cases sourceOf op.toNat with
  | none => rfl
  | some n =>
    change (s.forceIdleSource n op).settings = s.settings
    unfold forceIdleSource
    cases (s.src n).state with
    | idle => rfl
    | queued => rfl
    | sent => rfl
    | delivered => exact reevaluate_settings _ n false
    | holdoff => exact reevaluate_settings _ n false

@[simp] theorem tableClear_settings (s : State) : s.tableClear.settings = s.settings :=
  settings_ite (refuse_settings s _ _ _) ((setQueue_settings _ _).trans ((setSources_settings _ _).trans
    (setRegs_settings s _)))

/-! ### Session Controller -/

@[simp] theorem setLink_settings (s : State) (l : Link) : (s.setLink l).settings = s.settings := rfl
@[simp] theorem enterSyncing_settings (s : State) : s.enterSyncing.settings = s.settings := rfl
@[simp] theorem abandonGreeting_settings (s : State) : s.abandonGreeting.settings = s.settings := rfl
@[simp] theorem enterGreeting_settings (s : State) : s.enterGreeting.settings = s.settings := rfl
@[simp] theorem startSession_settings (s : State) : s.startSession.settings = s.settings := by
  rw [startSession_eq]
  rfl

@[simp] theorem beginSync_settings (s : State) : s.beginSync.settings = s.settings := settings_ite rfl rfl

@[simp] theorem disposeRecord_settings (s : State) (r : FrameRecord) :
    (s.disposeRecord r).settings = s.settings := by
  unfold disposeRecord
  cases r.body with
  | event m => exact requeueSource_settings s m.source m.count m.overrun
  | note k n => rfl
  | reply _ => rfl

@[simp] theorem disposeRecords_settings (s : State) (rs : List FrameRecord) :
    (s.disposeRecords rs).settings = s.settings := by
  induction rs with
  | nil => rfl
  | cons r rs ih => exact (disposeRecord_settings _ r).trans ih

/-- Session end disposes of the records of the Window and of the Delivered List; the rest of it sets other
blocks. -/
@[simp] theorem endSession_settings (s : State) : s.endSession.settings = s.settings := by
  simp [endSession, settings_foldl abandonSource_settings]

@[simp] theorem leaveLink_settings (s : State) : s.leaveLink.settings = s.settings := by
  unfold leaveLink
  cases s.session.link with
  | disabled => rfl
  | syncing => rfl
  | greeting => exact abandonGreeting_settings s
  | active => exact endSession_settings s
  | failed => rfl

@[simp] theorem recordFault_settings (s : State) (cause : FaultCause) :
    (s.recordFault cause).settings = s.settings := settings_ite rfl (settings_ite rfl rfl)

@[simp] theorem enterFailed_settings (s : State) (cause : FaultCause) :
    (s.enterFailed cause).settings = s.settings := by
  rw [enterFailed_eq]
  exact leaveLink_settings s

@[simp] theorem greetHello_settings (s : State) (heard : Bool) (revision window epoch role : Byte) :
    (s.greetHello heard revision window epoch role).settings = s.settings :=
  settings_ite (settings_ite (startSession_settings _) rfl) (enterFailed_settings s _)

@[simp] theorem linkEnable_settings (s : State) : s.linkEnable.settings = s.settings :=
  settings_ite (beginSync_settings _) rfl

@[simp] theorem linkDisable_settings (s : State) : s.linkDisable.settings = s.settings :=
  settings_ite rfl ((setTx_settings _ _).trans ((setLink_settings _ _).trans (leaveLink_settings s)))

@[simp] theorem linkRestart_settings (s : State) : s.linkRestart.settings = s.settings :=
  settings_ite rfl ((setTx_settings _ _).trans ((enterSyncing_settings _).trans (leaveLink_settings s)))

@[simp] theorem countSync_settings (s : State) (v : Option Byte) : (s.countSync v).settings = s.settings :=
  settings_ite (settings_ite (enterGreeting_settings s) rfl) rfl

@[simp] theorem takeBreak_settings (s : State) : s.takeBreak.settings = s.settings := by
  unfold takeBreak
  cases s.session.link with
  | disabled => rfl
  | syncing => rfl
  | greeting => exact (enterSyncing_settings _).trans (abandonGreeting_settings s)
  | active => exact enterFailed_settings s _
  | failed => rfl

@[simp] theorem greetIntervalExpiry_settings (s : State) : s.greetIntervalExpiry.settings = s.settings :=
  settings_ite rfl rfl

@[simp] theorem greetTimeoutExpiry_settings (s : State) : s.greetTimeoutExpiry.settings = s.settings :=
  settings_ite (enterFailed_settings s _) rfl

@[simp] theorem restartDelayExpiry_settings (s : State) : s.restartDelayExpiry.settings = s.settings :=
  settings_ite ((beginSync_settings _).trans ((enterSyncing_settings _).trans (leaveLink_settings s))) rfl

/-! ### Retransmit Window and Completions -/

@[simp] theorem ackRecord_settings (s : State) (r : FrameRecord) : (s.ackRecord r).settings = s.settings := by
  unfold ackRecord
  cases r.body with
  | event m => exact ackSource_settings s m.source
  | note k _ => rfl
  | reply _ => rfl

@[simp] theorem removeAcked_settings (s : State) (k : Nat) : (s.removeAcked k).settings = s.settings :=
  settings_foldl ackRecord_settings _ _

@[simp] theorem takeAck_settings (s : State) (n : SeqNum) : (s.takeAck n).settings = s.settings :=
  settings_ite (removeAcked_settings s _) rfl

@[simp] theorem countRetry_settings (s : State) (resend : Option SeqNum) :
    (s.countRetry resend).settings = s.settings :=
  settings_ite (enterFailed_settings _ _) rfl

@[simp] theorem takeNak_settings (s : State) (n : SeqNum) : (s.takeNak n).settings = s.settings :=
  settings_ite ((countRetry_settings _ _).trans (removeAcked_settings s _)) rfl

@[simp] theorem ackTimerExpiry_settings (s : State) : s.ackTimerExpiry.settings = s.settings :=
  settings_ite (countRetry_settings s _) rfl

@[simp] theorem unmatchedCompletion_settings (s : State) (vector : Byte) (oldest : Bool)
    (reason : UnmatchedReason) :
    (s.unmatchedCompletion vector oldest reason).settings = s.settings := by
  rw [unmatchedCompletion_eq]
  rfl

@[simp] theorem takeCompletion_settings (s : State) (oldest : Bool) (vector : Byte) :
    (s.takeCompletion oldest vector).settings = s.settings := by
  refine settings_ite (settings_ite (unmatchedCompletion_settings s _ _ _) ?_)
    (settings_ite (unmatchedCompletion_settings s _ _ _) (settings_foldl releaseSource_settings _ _))
  cases s.delivered with
  | nil => exact unmatchedCompletion_settings s _ _ _
  | cons n rest => exact releaseSource_settings _ n

/-! ### Notes and Control requests -/

@[simp] theorem noteSend_settings (s : State) : s.noteSend.settings = s.settings := by
  unfold noteSend
  cases s.notes.freeSlot with
  | none => rfl
  | some k => exact settings_ite rfl rfl

@[simp] theorem notePop_settings (s : State) : s.notePop.settings = s.settings := by
  unfold notePop
  split <;> rfl

@[simp] theorem remoteMask_settings (s : State) (tag : Byte) (n : SourceId) (op : RemoteOp) :
    (s.remoteMask tag n op).settings = s.settings :=
  (setReplies_settings _ _).trans ((setRegs_settings _ _).trans ((raiseFlag_settings _ _).trans
    (settings_ite (maskSet_settings s n) (maskClear_settings s n))))

@[simp] theorem controlMask_settings (s : State) (tag first count : Byte) (op : RemoteOp) :
    (s.controlMask tag first count op).settings = s.settings := by
  refine settings_ite rfl ?_
  cases sourceOf first.toNat with
  | none => rfl
  | some n => exact settings_ite (remoteMask_settings s tag n op) rfl

@[simp] theorem takeControl_settings (s : State) (tag op first count : Byte) :
    (s.takeControl tag op first count).settings = s.settings := by
  unfold takeControl
  split
  · exact controlMask_settings s tag first count .mask
  · exact controlMask_settings s tag first count .unmask
  · exact settings_ite rfl (settings_ite rfl rfl)
  · rfl

/-! ### Frames received -/

theorem sequenced_settings (s : State) (n : SeqNum) (room : Bool) (consume : State → State)
    (h : (consume s).settings = s.settings) : (s.sequenced n room consume).settings = s.settings := by
  unfold sequenced
  cases classify s.receiver.expected n with
  | expected => exact settings_ite h rfl
  | duplicate => rfl
  | ahead => exact settings_ite rfl rfl

@[simp] theorem activeFrame_settings (s : State) (f : RxFrame) : (s.activeFrame f).settings = s.settings := by
  cases f with
  | hello heard revision window epoch role => exact settings_ite rfl (enterFailed_settings s _)
  | ack n => exact takeAck_settings s n
  | nak n => exact takeNak_settings s n
  | complete n oldest vector => exact sequenced_settings s n _ _ (takeCompletion_settings s oldest vector)
  | note n tag data => exact sequenced_settings s n _ _ rfl
  | control n tag op first count => exact sequenced_settings s n _ _ (takeControl_settings s tag op first count)

@[simp] theorem greetingFrame_settings (s : State) (f : RxFrame) :
    (s.greetingFrame f).settings = s.settings := by
  cases f with
  | hello heard revision window epoch role => exact greetHello_settings s heard revision window epoch role
  | _ => rfl

@[simp] theorem goodFrame_settings (s : State) (f : RxFrame) : (s.goodFrame f).settings = s.settings := by
  unfold goodFrame
  cases s.session.link with
  | disabled => rfl
  | syncing => rfl
  | greeting => exact greetingFrame_settings _ f
  | active => exact activeFrame_settings _ f
  | failed => rfl

@[simp] theorem badFrame_settings (s : State) : s.badFrame.settings = s.settings := by
  unfold badFrame
  cases s.session.link with
  | disabled => rfl
  | syncing => rfl
  | greeting => rfl
  | active => exact settings_ite (enterFailed_settings _ _) rfl
  | failed => rfl

@[simp] theorem collect_settings (s : State) (c : Collecting) (v : Option Byte) :
    (s.collect c v).settings = s.settings := by
  refine settings_ite ?lengthByte (settings_ite ?lastByte rfl)
  case lengthByte =>
    cases v with
    | none => exact badFrame_settings s
    | some b => exact settings_ite rfl (badFrame_settings s)
  case lastByte =>
    cases judge (c.add v) with
    | none => exact badFrame_settings s
    | some f => exact goodFrame_settings s f

@[simp] theorem assemble_settings (s : State) (v : Option Byte) : (s.assemble v).settings = s.settings := by
  unfold assemble
  cases s.receiver.assembly with
  | none => exact settings_ite rfl rfl
  | some c => exact collect_settings s c v

@[simp] theorem takeCharacter_settings (s : State) (v : Option Byte) :
    (s.takeCharacter v).settings = s.settings := by
  unfold takeCharacter
  cases s.session.link with
  | disabled => rfl
  | syncing => exact countSync_settings s v
  | greeting => exact assemble_settings s v
  | active => exact assemble_settings s v
  | failed => rfl

/-! ### Frame boundaries -/

@[simp] theorem grant_settings (s : State) (b : Body) : (s.grant b).settings = s.settings := rfl

@[simp] theorem passTurn_settings (s : State) (contested : Bool) :
    (s.passTurn contested).settings = s.settings :=
  settings_ite rfl rfl

@[simp] theorem grantEvent_settings (s : State) (m : Message) : (s.grantEvent m).settings = s.settings :=
  (count_settings _ _).trans ((grant_settings _ _).trans ((setSrc_settings _ _ _).trans (setQueue_settings s _)))

@[simp] theorem grantNote_settings (s : State) (k : SlotId) (n : Note) :
    (s.grantNote k n).settings = s.settings :=
  (grant_settings _ _).trans rfl

@[simp] theorem send_settings (s : State) (c : Choice) : (s.send c).settings = s.settings := by
  cases c with
  | event m => exact (passTurn_settings _ _).trans (grantEvent_settings s m)
  | note k n => exact (passTurn_settings _ _).trans (grantNote_settings s k n)
  | _ => rfl

@[simp] theorem endItem_settings (s : State) : s.endItem.settings = s.settings := by
  unfold endItem
  split
  · exact settings_ite rfl rfl
  · rfl

@[simp] theorem boundary_settings (s : State) : s.boundary.settings = s.settings :=
  (send_settings _ _).trans (endItem_settings s)

/-! ### The Register Window -/

@[simp] theorem takeRead_settings (s : State) (r : Register) : (s.takeRead r).settings = s.settings := by
  unfold takeRead afterRead
  split <;> rfl

/-! ### Commands -/

/-- A CMD write that does not reset the device (R180). -/
theorem command_settings (s : State) (code op : Byte) (h : (s.command code op).resetting = none) :
    (s.command code op).settings = s.settings := by
  revert h
  unfold command
  split
  · exact fun _ => forceIdle_settings s op
  · exact fun _ => tableClear_settings s
  · exact fun _ => noteSend_settings s
  · exact fun _ => notePop_settings s
  · exact fun _ => rfl
  · exact fun _ => linkEnable_settings s
  · exact fun _ => linkDisable_settings s
  · exact fun _ => linkRestart_settings s
  · exact fun _ => rfl
  · exact fun h => nomatch h
  · exact fun _ => rfl

theorem onBus_settings (s : State) (a : Access) (take : State → State) (h : (take s).settings = s.settings) :
    (s.onBus a take).settings = s.settings := settings_ite rfl h

theorem unlessReset_settings (s : State) (f : State → State) (h : (f s).settings = s.settings) :
    (s.unlessReset f).settings = s.settings := settings_ite rfl h

/-- Equal settings are equal registers. -/
theorem eq_of_settings_eq {s t : State} (h : t.settings = s.settings) :
    t.regs.srcIndex = s.regs.srcIndex ∧ t.regs.linkCfg = s.regs.linkCfg ∧ t.regs.causeEn = s.regs.causeEn ∧
      t.notes.outTag = s.notes.outTag ∧ t.notes.outLength = s.notes.outLength ∧
      t.notes.outData0 = s.notes.outData0 ∧ t.notes.outData1 = s.notes.outData1 := by
  simpa only [settings, Settings.mk.injEq] using h

theorem staging_of_notes_eq {s t : State} (h : t.notes = s.notes) :
    t.notes.outTag = s.notes.outTag ∧ t.notes.outLength = s.notes.outLength ∧
      t.notes.outData0 = s.notes.outData0 ∧ t.notes.outData1 = s.notes.outData1 := by
  rw [h]
  exact ⟨rfl, rfl, rfl, rfl⟩

/-- A write to SRC_INDEX changes SRC_INDEX, REFUSE_INFO and CAUSE alone (R21, R181). -/
theorem writeSrcIndex_others (s : State) (v : Word) :
    (s.writeSrcIndex v).notes = s.notes ∧ (s.writeSrcIndex v).regs.linkCfg = s.regs.linkCfg ∧
      (s.writeSrcIndex v).regs.causeEn = s.regs.causeEn := by
  unfold writeSrcIndex
  cases sourceOf v.toNat with
  | none => exact ⟨rfl, rfl, rfl⟩
  | some n => exact ⟨rfl, rfl, rfl⟩

/-- A write to LINK_CFG changes LINK_CFG, REFUSE_INFO and CAUSE alone (R181, R182). -/
theorem writeLinkCfg_others (s : State) (v : Word) :
    (s.writeLinkCfg v).notes = s.notes ∧ (s.writeLinkCfg v).regs.srcIndex = s.regs.srcIndex ∧
      (s.writeLinkCfg v).regs.causeEn = s.regs.causeEn := by
  unfold writeLinkCfg
  split
  · exact ⟨rfl, rfl, rfl⟩
  · split <;> exact ⟨rfl, rfl, rfl⟩

/-- A write to a register without a row of its own leaves the Register Window's own state alone (R178). -/
theorem takeWrite_regs (s : State) (v : Word) (r : Register) (h : r.hasOwnWriteRow = false) :
    (s.takeWrite v r).regs = s.regs := by
  cases r with
  | srcIndex | srcConfig | maskSetLo | maskSetHi | maskClrLo | maskClrHi | softRaise | softLower | cmd
  | linkCfg | cause | causeEn => cases h
  | _ => rfl

end State

theorem exec_linkCfgWrite (s : State) (v : Word) (h : s.resetting = none) :
    exec (.linkCfgWrite v) s = .next (s.writeLinkCfg v).ready :=
  congrArg _ (s.onBus_none _ (fun u => u.writeLinkCfg v) h)

theorem exec_causeEnWrite (s : State) (v : Word) (h : s.resetting = none) :
    exec (.causeEnWrite v) s = .next (s.writeCauseEn v).ready :=
  congrArg _ (s.onBus_none _ (fun u => u.writeCauseEn v) h)

theorem exec_unknownCommand (s : State) (code op : Byte) (h : s.resetting = none) :
    exec (.unknownCommand code op) s = .next (s.command code op).ready :=
  congrArg _ (s.onBus_none _ (fun u => u.command code op) h)

theorem exec_registerWrite (s : State) (a : Byte) (v : Word) (h : s.resetting = none) :
    exec (.registerWrite a v) s = .next (s.takeWrite v (Register.ofAddr a)).ready :=
  congrArg _ (s.onBus_none _ (fun u => u.takeWrite v (Register.ofAddr a)) h)

/-- The rows of the table that write a register of `Settings`. -/
def writesSettings : Instr → Bool
  | .srcIndexWrite _ | .linkCfgWrite _ | .causeEnWrite _ | .registerWrite _ _ => true
  | _ => false

open State in
/-- Every other command leaves those registers alone outside a device reset, and so does the end of a reset
that is not in effect. -/
theorem exec_settings (c : Instr) (s : State) (hc : writesSettings c = false) (hs : s.resetting = none) :
    ∃ t, exec c s = .next t ∧ (t.resetting = none → t.settings = s.settings) := by
  have hcommand (code op : Byte) (h : (s.command code op).ready.resetting = none) :
      (s.command code op).ready.settings = s.settings := command_settings s code op h
  cases c with
  | srcIndexWrite | linkCfgWrite | causeEnWrite | registerWrite => cases hc
  | observedLineChange l level => exact ⟨_, rfl, fun _ => settings_ite rfl (observe_settings s l level)⟩
  | stabilityIntervalExpiry l => exact ⟨_, rfl, fun _ => unlessReset_settings s _ (intervalExpiry_settings s l)⟩
  | srcConfigWrite v => exact ⟨_, rfl, fun _ => onBus_settings s _ _ (writeSrcConfig_settings s v)⟩
  | maskSetLo v => exact ⟨_, rfl, fun _ => onBus_settings s _ _ (maskSetAll_settings s _)⟩
  | maskSetHi v => exact ⟨_, rfl, fun _ => onBus_settings s _ _ (maskSetAll_settings s _)⟩
  | maskClrLo v => exact ⟨_, rfl, fun _ => onBus_settings s _ _ (maskClearAll_settings s _)⟩
  | maskClrHi v => exact ⟨_, rfl, fun _ => onBus_settings s _ _ (maskClearAll_settings s _)⟩
  | softRaise v =>
    exact ⟨_, rfl, fun _ => onBus_settings s _ _ (softRequest_settings s _ v _ (raiseSoft_settings s))⟩
  | softLower v =>
    exact ⟨_, rfl, fun _ => onBus_settings s _ _ (softRequest_settings s _ v _ (lowerSoft_settings s))⟩
  | forceIdle op => exact ⟨_, exec_commandOfCode s 0x01#8 op hs, hcommand _ op⟩
  | tableClear op => exact ⟨_, exec_commandOfCode s 0x02#8 op hs, hcommand _ op⟩
  | noteSend op => exact ⟨_, exec_commandOfCode s 0x03#8 op hs, hcommand _ op⟩
  | notePop op => exact ⟨_, exec_commandOfCode s 0x04#8 op hs, hcommand _ op⟩
  | noteFlush op => exact ⟨_, exec_commandOfCode s 0x05#8 op hs, hcommand _ op⟩
  | linkEnable op => exact ⟨_, exec_commandOfCode s 0x06#8 op hs, hcommand _ op⟩
  | linkDisable op => exact ⟨_, exec_commandOfCode s 0x07#8 op hs, hcommand _ op⟩
  | linkRestart op => exact ⟨_, exec_commandOfCode s 0x08#8 op hs, hcommand _ op⟩
  | statsClear op => exact ⟨_, exec_commandOfCode s 0x09#8 op hs, hcommand _ op⟩
  | deviceReset op => exact ⟨_, exec_commandOfCode s 0x0A#8 op hs, hcommand _ op⟩
  | unknownCommand code op => exact ⟨_, exec_unknownCommand s code op hs, hcommand code op⟩
  | linkStatusRead => exact ⟨_, rfl, fun _ => onBus_settings s _ _ (takeRead_settings s _)⟩
  | linkFaultRead => exact ⟨_, rfl, fun _ => onBus_settings s _ _ (takeRead_settings s _)⟩
  | causeWrite v => exact ⟨_, rfl, fun _ => onBus_settings s _ _ (setRegs_settings s _)⟩
  | rstN => exact ⟨_, rfl, fun h => nomatch h⟩
  | powerUp => exact ⟨_, rfl, fun h => nomatch h⟩
  | resetEnd =>
    refine ⟨_, rfl, fun _ => ?_⟩
    rw [endReset, hs]
  | character c => exact ⟨_, rfl, fun _ => unlessReset_settings s _ (takeCharacter_settings s _)⟩
  | characterGap => exact ⟨_, rfl, fun _ => unlessReset_settings s _ (settings_ite (badFrame_settings s) rfl)⟩
  | lineBreak => exact ⟨_, rfl, fun _ => unlessReset_settings s _ (takeBreak_settings _)⟩
  | hello => exact ⟨_, rfl, fun _ => unlessReset_settings s _ (goodFrame_settings s _)⟩
  | ack n => exact ⟨_, rfl, fun _ => unlessReset_settings s _ (goodFrame_settings s _)⟩
  | nak n => exact ⟨_, rfl, fun _ => unlessReset_settings s _ (goodFrame_settings s _)⟩
  | complete => exact ⟨_, rfl, fun _ => unlessReset_settings s _ (goodFrame_settings s _)⟩
  | note =>
    exact ⟨_, rfl, fun _ => unlessReset_settings s _ (settings_ite (goodFrame_settings s _) (badFrame_settings s))⟩
  | control => exact ⟨_, rfl, fun _ => unlessReset_settings s _ (goodFrame_settings s _)⟩
  | frameBoundary => exact ⟨_, rfl, fun _ => unlessReset_settings s _ (boundary_settings s)⟩
  | holdoffExpiry n => exact ⟨_, rfl, fun _ => unlessReset_settings s _ (holdoffExpiry_settings s n)⟩
  | acknowledgmentTimerExpiry => exact ⟨_, rfl, fun _ => unlessReset_settings s _ (ackTimerExpiry_settings s)⟩
  | greetingIntervalExpiry => exact ⟨_, rfl, fun _ => unlessReset_settings s _ (greetIntervalExpiry_settings s)⟩
  | greetTimeout => exact ⟨_, rfl, fun _ => unlessReset_settings s _ (greetTimeoutExpiry_settings s)⟩
  | restartDelayExpiry => exact ⟨_, rfl, fun _ => unlessReset_settings s _ (restartDelayExpiry_settings s)⟩

/-- Settles O29: a write of one of these registers leaves the others alone, and every other command leaves them
all. -/
theorem registersChangeByTheirOwnWritesAlone : Obligations.RegistersChangeByTheirOwnWritesAlone := by
  intro c s t hs hw ht hr
  cases hc : writesSettings c with
  | false =>
    obtain ⟨u, hu, hkeeps⟩ := exec_settings c s hc hs
    cases hu.symm.trans ht
    obtain ⟨hindex, hcfg, hen, hstaging⟩ := State.eq_of_settings_eq (hkeeps hr)
    exact ⟨fun _ => hindex, fun _ => hcfg, fun _ => hen, fun _ => hstaging⟩
  | true =>
    cases c with
    | srcIndexWrite v =>
      cases (exec_srcIndexWrite s v hs).symm.trans ht
      obtain ⟨hnotes, hcfg, hen⟩ := s.writeSrcIndex_others v
      exact ⟨fun h => absurd rfl (h v), fun _ => hcfg, fun _ => hen, fun _ => State.staging_of_notes_eq hnotes⟩
    | linkCfgWrite v =>
      cases (exec_linkCfgWrite s v hs).symm.trans ht
      obtain ⟨hnotes, hindex, hen⟩ := s.writeLinkCfg_others v
      exact ⟨fun _ => hindex, fun h => absurd rfl (h v), fun _ => hen, fun _ => State.staging_of_notes_eq hnotes⟩
    | causeEnWrite v =>
      cases (exec_causeEnWrite s v hs).symm.trans ht
      exact ⟨fun _ => rfl, fun _ => rfl, fun h => absurd rfl (h v), fun _ => State.staging_of_notes_eq rfl⟩
    | registerWrite a v =>
      cases (exec_registerWrite s a v hs).symm.trans ht
      have hregs : (s.takeWrite v (Register.ofAddr a)).ready.regs = s.regs :=
        s.takeWrite_regs v _ (by simpa [Instr.wellFormed] using hw)
      rw [hregs]
      exact ⟨fun _ => rfl, fun _ => rfl, fun _ => rfl, fun h => absurd rfl (h a v)⟩
    | _ => cases hc

end Sys2Proof.Machine
end

section
/-! PROOFS. The expiry of a holdoff timer (R59). -/

namespace Sys2Proof.Machine

theorem exec_holdoffExpiry (s : State) (n : SourceId) (h : s.resetting = none) :
    exec (.holdoffExpiry n) s = .next (s.holdoffExpiry n) :=
  congrArg _ (s.unlessReset_none (fun u => u.holdoffExpiry n) h)

namespace State

/-- Setting an entry twice is setting it to the second value. -/
theorem setSrc_setSrc (s : State) (n : SourceId) (x y : Source) :
    (s.setSrc n x).setSrc n y = s.setSrc n y := by
  simp [setSrc]

theorem holdoffExpiry_stopped (s : State) (n : SourceId) (h : (s.src n).holdoff = none) :
    s.holdoffExpiry n = s := by
  simp [holdoffExpiry, h]

/-- A LEVEL source becomes IDLE and is re-evaluated. -/
theorem holdoffExpiry_level (s : State) (n : SourceId) (h : (s.src n).holdoff ≠ none)
    (hl : (s.src n).sense.isLevel = true) :
    s.holdoffExpiry n = (s.setSrc n { s.src n with state := .idle, holdoff := none }).checked n false := by
  rw [holdoffExpiry, if_pos (Option.isSome_iff_ne_none.2 h)]
  simp only [if_pos hl, setSrc_src_self, setSrc_setSrc, reevaluate_eq]

/-- An EDGE source delivers its PENDING edges, its timer stopped. -/
theorem holdoffExpiry_edge (s : State) (n : SourceId) (h : (s.src n).holdoff ≠ none)
    (hl : (s.src n).sense.isLevel = false) :
    s.holdoffExpiry n = (s.setSrc n { s.src n with holdoff := none }).flushPending n := by
  rw [holdoffExpiry, if_pos (Option.isSome_iff_ne_none.2 h)]
  simp only [hl, if_neg Bool.false_ne_true]

end State

/-- Settles O55, by the timer and then by the class of the source. -/
theorem holdoffExpiryReraisesTheSource : Obligations.HoldoffExpiryReraisesTheSource := by
  intro s n hr
  rw [exec_holdoffExpiry s n hr]
  refine ⟨fun h => ?stopped, fun h => ⟨fun hl => ?level, fun hl => ?edge⟩⟩
  case stopped => rw [s.holdoffExpiry_stopped n h]
  case level =>
    rw [s.holdoffExpiry_level n h hl]
    rfl
  case edge =>
    have hsrc : (s.setSrc n { s.src n with holdoff := none }).src n = { s.src n with holdoff := none } :=
      s.setSrc_src_self n _
    have hset (e : Source) : { s.setSrc n { s.src n with holdoff := none } with
        sources := (s.setSrc n { s.src n with holdoff := none }).sources.set n.val e n.isLt } = s.setSrc n e :=
      s.setSrc_setSrc n _ e
    rw [s.holdoffExpiry_edge n h hl, State.flushPending_eq _ n (by rw [hsrc]; exact hl)]
    simp only [State.edgeMessage, hsrc, hset]
    rfl

end Sys2Proof.Machine
end

section
/-! PROOFS. The law of the Source Table: the laws on places, entries and messages (R19, R39, R40, R46, R68, R146)
read source by source, over the messages in flight and the sources delivered. Every operation of the Source Table
speaks of one source, and the law of the others is carried over by `TableLaw.replace`. -/

namespace Sys2Proof.Machine

/-! ### One source -/

/-- The messages of a source among others. -/
def ofSource (n : SourceId) (ms : Multiset Message) : Multiset Message := ms.filter fun m => m.source = n

theorem ofSource_cons (n : SourceId) (m : Message) (ms : Multiset Message) :
    ofSource n (m ::ₘ ms) = if m.source = n then m ::ₘ ofSource n ms else ofSource n ms := by
  split
  next h => exact Multiset.filter_cons_of_pos ms h
  next h => exact Multiset.filter_cons_of_neg ms h

theorem ofSource_cons_self (m : Message) (ms : Multiset Message) :
    ofSource m.source (m ::ₘ ms) = m ::ₘ ofSource m.source ms := by
  rw [ofSource_cons, if_pos rfl]

theorem ofSource_cons_ne {n : SourceId} {m : Message} (h : n ≠ m.source) (ms : Multiset Message) :
    ofSource n (m ::ₘ ms) = ofSource n ms := by
  rw [ofSource_cons, if_neg h.symm]

theorem mem_ofSource {n : SourceId} {m : Message} {ms : Multiset Message} :
    m ∈ ofSource n ms ↔ m ∈ ms ∧ m.source = n := Multiset.mem_filter

namespace Source

/-- An entry alone (R25, R26, R39, R49), as `State.EntryLaw` has it. -/
structure EntryOk (e : Source) (n : SourceId) : Prop where
  disabled : e.enable = false → e.state = .idle
  masked : e.mask = true → e.state ≠ .queued
  vector : e.enable = true → 1 ≤ e.vector.toNat ∧ e.vector.toNat ≤ 250
  soft : 32 ≤ n.val → e.sense = .levelHigh ∨ e.sense = .rising
  deliveredLevel : e.state = .delivered → e.sense.isLevel = true
  holdoffHold : e.state = .holdoff → e.hold ≠ 0
  pending : e.pending ≠ 0 → e.mask = false ∧ e.sense.isLevel = false ∧ (e.state = .sent ∨ e.state = .holdoff)
  pendOvr : e.pendOvr = true → e.pending = 255

/-- An enabled entry in another STATE. -/
theorem EntryOk.moved {e : Source} {n : SourceId} (h : e.EntryOk n) (he : e.enable = true) {state : Delivery}
    {timer : Timer} (hm : state = .queued → e.mask = false := by nofun)
    (hl : state = .delivered → e.sense.isLevel = true := by nofun)
    (hh : state = .holdoff → e.hold ≠ 0 := by nofun)
    (hp : e.pending ≠ 0 → state = .sent ∨ state = .holdoff) :
    { e with state := state, holdoff := timer }.EntryOk n where
  disabled hd := by simp [he] at hd
  masked hmask hs := by simp [hm hs] at hmask
  vector := h.vector
  soft := h.soft
  deliveredLevel := hl
  holdoffHold := hh
  pending hn := ⟨(h.pending hn).1, (h.pending hn).2.1, hp hn⟩
  pendOvr := h.pendOvr

/-- A message with the fields of an entry (R19, R40), as `State.carries` has it. -/
def Carries (e : Source) (m : Message) : Prop :=
  m.vector = e.vector ∧ m.dest = e.dest ∧ m.prio = e.prio ∧ m.level = e.sense.isLevel ∧ m.count ≠ 0 ∧
    (m.level = true → m.count = 1 ∧ m.overrun = false)

theorem Carries.level_eq {e : Source} {m : Message} (h : e.Carries m) : m.level = e.sense.isLevel := by
  obtain ⟨-, -, -, hlevel, -⟩ := h
  exact hlevel

/-- The count and OVERRUN of a message of class EDGE are free, but for a count of 0. -/
theorem Carries.amend {e : Source} {m : Message} (h : e.Carries m) (hl : e.sense.isLevel = false) {count : Byte}
    (hcount : count ≠ 0) (overrun : Bool) : e.Carries { m with count := count, overrun := overrun } := by
  obtain ⟨hvector, hdest, hprio, hlevel, -⟩ := h
  exact ⟨hvector, hdest, hprio, hlevel, hcount, fun hm => by simp [hlevel, hl] at hm⟩

theorem Carries.count_ne_zero {e : Source} {m : Message} (h : e.Carries m) : m.count ≠ 0 := by
  obtain ⟨-, -, -, -, hcount, -⟩ := h
  exact hcount

/-- An entry with its qualified level, its messages queued and in flight, and its places on the Delivered
List (R39, R46, R68, R146). -/
structure Lawful (e : Source) (n : SourceId) (level : Bool) (queued sent : Multiset Message) (held : Nat) : Prop
    extends EntryOk e n where
  queuedOnce : queued.card = if e.state = .queued then 1 else 0
  sentOnce : sent.card = if e.state = .sent then 1 else 0
  heldOnce : held = if e.state = .delivered then 1 else 0
  timer : e.holdoff.isSome ↔ e.state = .holdoff
  queuedCarried : ∀ m ∈ queued, e.Carries m ∧ (m.level = true → level = true)
  sentCarried : ∀ m ∈ sent, e.Carries m

/-- An entry in IDLE with nothing PENDING, as `flushPending` and `requeueSource` leave it. -/
def quieted (e : Source) : Source := { e with pending := 0, pendOvr := false, state := .idle }

variable {e : Source} {n : SourceId} {level level' : Bool} {queued sent : Multiset Message} {held : Nat}

namespace Lawful

theorem queued_eq_zero (h : e.Lawful n level queued sent held) (hs : e.state ≠ .queued) : queued = 0 := by
  rw [← Multiset.card_eq_zero, h.queuedOnce, if_neg hs]

theorem sent_eq_zero (h : e.Lawful n level queued sent held) (hs : e.state ≠ .sent) : sent = 0 := by
  rw [← Multiset.card_eq_zero, h.sentOnce, if_neg hs]

theorem held_eq_zero (h : e.Lawful n level queued sent held) (hs : e.state ≠ .delivered) : held = 0 := by
  rw [h.heldOnce, if_neg hs]

theorem holdoff_eq_none (h : e.Lawful n level queued sent held) (hs : e.state ≠ .holdoff) : e.holdoff = none := by
  rw [← Option.not_isSome_iff_eq_none, h.timer]
  exact hs

theorem exists_queued (h : e.Lawful n level queued sent held) (hs : e.state = .queued) : ∃ m, queued = {m} := by
  rw [← Multiset.card_eq_one, h.queuedOnce, if_pos hs]

theorem enabled (h : e.Lawful n level queued sent held) (hs : e.state ≠ .idle) : e.enable = true :=
  Bool.not_eq_false _ ▸ fun hd => hs (h.disabled hd)

theorem pending_eq_zero (h : e.Lawful n level queued sent held) (hs : e.state ≠ .sent ∧ e.state ≠ .holdoff) :
    e.pending = 0 := by
  by_contra hp
  obtain ⟨-, -, hplace⟩ := h.pending hp
  exact hplace.elim hs.1 hs.2

theorem pendOvr_eq_false (h : e.Lawful n level queued sent held) (hp : e.pending = 0) : e.pendOvr = false := by
  cases ho : e.pendOvr with
  | false => rfl
  | true => exact absurd (hp.symm.trans (h.pendOvr ho)) (by decide)

theorem state_sent (h : e.Lawful n level queued sent held) {m : Message} (hm : m ∈ sent) : e.state = .sent := by
  by_contra hs
  exact absurd (h.sent_eq_zero hs ▸ hm) (Multiset.notMem_zero m)

theorem state_delivered (h : e.Lawful n level queued sent held) (hk : held ≠ 0) : e.state = .delivered := by
  by_contra hs
  exact hk (h.held_eq_zero hs)

/-- The level of a source that has no LEVEL message queued is free. -/
theorem relevel (h : e.Lawful n level queued sent held)
    (hq : e.state = .queued → e.sense.isLevel = true → level' = true) : e.Lawful n level' queued sent held :=
  { h with
    queuedCarried := fun m hm => by
      obtain ⟨hc, -⟩ := h.queuedCarried m hm
      refine ⟨hc, fun hl => hq ?_ (hc.level_eq ▸ hl)⟩
      by_contra hs
      exact absurd (h.queued_eq_zero hs ▸ hm) (Multiset.notMem_zero m) }

/-- An idle entry with nothing pending and no timer. -/
theorem quiet (hv : e.enable = true → 1 ≤ e.vector.toNat ∧ e.vector.toNat ≤ 250)
    (hsoft : 32 ≤ n.val → e.sense = .levelHigh ∨ e.sense = .rising) (hs : e.state = .idle)
    (hp : e.pending = 0) (ho : e.pendOvr = false) (ht : e.holdoff = none) : e.Lawful n level 0 0 0 where
  disabled _ := hs
  masked _ := by simp [hs]
  vector := hv
  soft := hsoft
  deliveredLevel := by simp [hs]
  holdoffHold := by simp [hs]
  pending h := absurd hp h
  pendOvr h := by simp [ho] at h
  queuedOnce := by simp [hs]
  sentOnce := by simp [hs]
  heldOnce := by simp [hs]
  timer := by simp [hs, ht]
  queuedCarried := by simp
  sentCarried := by simp

/-- A message queued for an idle source that is enabled and unmasked (R41). -/
theorem raise (h : e.Lawful n level queued sent held) {m : Message} (hs : e.state = .idle)
    (he : e.enable = true) (hm : e.mask = false) (hc : e.Carries m) (hl : m.level = true → level' = true) :
    { e with state := .queued }.Lawful n level' (m ::ₘ queued) sent held := by
  obtain rfl := h.queued_eq_zero (by simp [hs])
  obtain rfl := h.sent_eq_zero (by simp [hs])
  obtain rfl := h.held_eq_zero (by simp [hs])
  exact
    { h.toEntryOk.moved he (hm := fun _ => hm) (hp := fun hn => absurd (h.pending_eq_zero (by simp [hs])) hn) with
      queuedOnce := by simp
      sentOnce := by simp
      heldOnce := by simp
      timer := by simp [h.holdoff_eq_none (by simp [hs])]
      queuedCarried := by simpa using ⟨hc, hl⟩
      sentCarried := by simp }

/-- A source that goes to IDLE with nothing of it left anywhere. -/
theorem settle (h : e.Lawful n level queued sent held) :
    { e with state := .idle, pending := 0, pendOvr := false, holdoff := none }.Lawful n level' 0 0 0 :=
  quiet h.vector h.soft rfl rfl rfl rfl

theorem quieted (h : e.Lawful n level queued sent held) (hs : e.state ≠ .holdoff) :
    e.quieted.Lawful n level' 0 0 0 :=
  quiet h.vector h.soft rfl rfl rfl (h.holdoff_eq_none hs)

/-- The queued message of a source granted (R47, R73). -/
theorem grant (h : e.Lawful n level queued sent held) {m : Message} (hm : m ∈ queued) :
    { e with state := .sent }.Lawful n level 0 (m ::ₘ sent) held := by
  have hs : e.state = .queued := by
    by_contra hs
    exact absurd (h.queued_eq_zero hs ▸ hm) (Multiset.notMem_zero m)
  obtain rfl := h.sent_eq_zero (by simp [hs])
  obtain rfl := h.held_eq_zero (by simp [hs])
  have hc : e.Carries m := (h.queuedCarried m hm).1
  exact
    { h.toEntryOk.moved (h.enabled (by simp [hs])) (hp := fun _ => .inl rfl) with
      queuedOnce := by simp
      sentOnce := by simp
      heldOnce := by simp
      timer := by simp [h.holdoff_eq_none (by simp [hs])]
      queuedCarried := by simp
      sentCarried := fun x hx => by
        obtain rfl : x = m := by simpa using hx
        exact hc }

/-- An acknowledged source of class LEVEL on the Delivered List (R52). -/
theorem deliver (h : e.Lawful n level queued sent held) (hs : e.state = .sent) (hl : e.sense.isLevel = true) :
    { e with state := .delivered }.Lawful n level queued 0 (held + 1) := by
  obtain rfl := h.queued_eq_zero (by simp [hs])
  obtain rfl := h.held_eq_zero (by simp [hs])
  exact
    { h.toEntryOk.moved (h.enabled (by simp [hs])) (hl := fun _ => hl)
        (hp := fun hn => by simp [(h.pending hn).2.1] at hl) with
      queuedOnce := by simp
      sentOnce := by simp
      heldOnce := by simp
      timer := by simp [h.holdoff_eq_none (by simp [hs])]
      queuedCarried := by simp
      sentCarried := by simp }

/-- A SENT or DELIVERED source with a HOLD whose holdoff timer starts (R53, R56, R58). -/
theorem startHoldoff (h : e.Lawful n level queued sent held) (hs : e.state ≠ .idle ∧ e.state ≠ .queued)
    (hh : e.hold ≠ 0) (now : Nat) :
    { e with state := .holdoff, holdoff := some now }.Lawful n level queued 0 0 := by
  obtain rfl := h.queued_eq_zero hs.2
  exact
    { h.toEntryOk.moved (h.enabled hs.1) (hh := fun _ => hh) (hp := fun _ => .inr rfl) with
      queuedOnce := by simp
      sentOnce := by simp
      heldOnce := by simp
      timer := by simp
      queuedCarried := by simp
      sentCarried := by simp }

/-- Edge events counted into PENDING (R49, R50). -/
theorem recount (h : e.Lawful n level queued sent held) (hs : e.state = .sent ∨ e.state = .holdoff)
    (hm : e.mask = false) (hl : e.sense.isLevel = false) {pending : Byte} {pendOvr : Bool}
    (ho : pendOvr = true → pending = 255) :
    { e with pending := pending, pendOvr := pendOvr }.Lawful n level queued sent held :=
  { h with
    pending := fun _ => ⟨hm, hl, hs⟩
    pendOvr := ho }

/-- A MASK set for a source that is not QUEUED, and nothing PENDING left (R30). -/
theorem mask (h : e.Lawful n level queued sent held) (hs : e.state ≠ .queued) :
    { e with mask := true, pending := 0, pendOvr := false }.Lawful n level queued sent held :=
  { h with
    masked := fun _ => hs
    pending := fun hn => absurd rfl hn
    pendOvr := nofun }

/-- A MASK cleared (R31). -/
theorem unmask (h : e.Lawful n level queued sent held) :
    { e with mask := false }.Lawful n level queued sent held :=
  { h with
    masked := nofun
    pending := fun hn => ⟨rfl, (h.pending hn).2⟩ }

/-- The queued message of a source changed in fields that are its own (R45, R50). -/
theorem amend (h : e.Lawful n level queued sent held) (f : Message → Message)
    (hf : ∀ m ∈ queued, e.Carries (f m) ∧ ((f m).level = true → level = true)) :
    e.Lawful n level (queued.map f) sent held :=
  { h with
    queuedOnce := by rw [Multiset.card_map, h.queuedOnce]
    queuedCarried := fun m hm => by
      obtain ⟨m', hm', rfl⟩ := Multiset.mem_map.1 hm
      exact hf m' hm' }

end Lawful

end Source

/-! ### The Event Queue -/

namespace EventQueue

/-- The messages of a queue, in no order. -/
def contents (q : EventQueue) : Multiset Message := q.messages

/-- Every message stands in its class (R68). -/
def Classed (q : EventQueue) : Prop := ∀ c : Fin 4, ∀ m ∈ q[c.val], m.prio = c

theorem contents_eq (q : EventQueue) :
    q.contents = (q[3] : Multiset Message) + q[2] + q[1] + q[0] := rfl

/-- A class changed by a message more. -/
theorem contents_set_insert (q : EventQueue) (c : Fin 4) (m : Message) (l : List Message)
    (h : (l : Multiset Message) = m ::ₘ (q[c.val] : Multiset Message)) :
    contents (q.set c.val l) = m ::ₘ q.contents := by
  simp only [contents_eq, Vector.getElem_set]
  fin_cases c <;> simp [h, -Multiset.coe_add, -Multiset.cons_coe]

theorem contents_append (q : EventQueue) (m : Message) : (q.append m).contents = m ::ₘ q.contents :=
  contents_set_insert q m.prio m _ (Multiset.coe_eq_coe.2 (List.perm_append_singleton m _))

theorem contents_frontInsert (q : EventQueue) (m : Message) : (q.frontInsert m).contents = m ::ₘ q.contents :=
  contents_set_insert q m.prio m _ rfl

theorem contents_withdraw (q : EventQueue) (n : SourceId) :
    (q.withdraw n).contents = q.contents.filter fun m => m.source ≠ n := by
  simp [contents, messages, withdraw]

theorem contents_amend (q : EventQueue) (n : SourceId) (f : Message → Message) :
    (q.amend n f).contents = q.contents.map fun m => if m.source = n then f m else m := by
  simp [contents, messages, amend]

theorem Classed.set {q : EventQueue} (h : q.Classed) (m : Message) (l : List Message)
    (hl : ∀ x ∈ l, x = m ∨ x ∈ q[m.prio.val]) : Classed (q.set m.prio.val l) := by
  intro c x hx
  rw [Vector.getElem_set] at hx
  split at hx
  next hc =>
    rcases hl x hx with rfl | hx
    · exact Fin.ext hc
    · rw [h m.prio x hx]
      exact Fin.ext hc
  next => exact h c x hx

theorem Classed.append {q : EventQueue} (h : q.Classed) (m : Message) : (q.append m).Classed :=
  h.set m _ fun _ hx => (List.mem_append.1 hx).symm.imp_left List.mem_singleton.1

theorem Classed.frontInsert {q : EventQueue} (h : q.Classed) (m : Message) : (q.frontInsert m).Classed :=
  h.set m _ fun _ hx => List.mem_cons.1 hx

theorem Classed.withdraw {q : EventQueue} (h : q.Classed) (n : SourceId) : (q.withdraw n).Classed := by
  intro c m hm
  rw [EventQueue.withdraw, Vector.getElem_map] at hm
  exact h c m (List.mem_filter.1 hm).1

theorem Classed.amend {q : EventQueue} (h : q.Classed) (n : SourceId) {f : Message → Message}
    (hf : ∀ m, (f m).prio = m.prio) : (q.amend n f).Classed := by
  intro c m hm
  rw [EventQueue.amend, Vector.getElem_map] at hm
  obtain ⟨x, hx, rfl⟩ := List.mem_map.1 hm
  rw [apply_ite Message.prio, hf, ite_self]
  exact h c x hx

/-- The head leaves: the messages that remain are the others, in their classes (R69, R73). -/
theorem messages_dropHead {q : EventQueue} {m : Message} {ms : List Message} (h : q.messages = m :: ms) :
    q.dropHead.messages = ms := by
  unfold messages at h
  unfold dropHead messages
  cases h3 : q[3] with
  | cons => simp_all
  | nil =>
    cases h2 : q[2] with
    | cons => simp_all
    | nil =>
      cases h1 : q[1] with
      | cons => simp_all
      | nil => simp_all

theorem Classed.dropHead {q : EventQueue} (h : q.Classed) : q.dropHead.Classed := by
  have hset (i : Fin 4) : Classed (q.set i.val q[i.val].tail) := by
    intro c m hm
    rw [Vector.getElem_set] at hm
    split at hm
    next hc =>
      obtain rfl : i = c := Fin.ext hc
      exact h i m (List.mem_of_mem_tail hm)
    next => exact h c m hm
  unfold EventQueue.dropHead
  split
  · exact hset 3
  · split
    · exact hset 2
    · split
      · exact hset 1
      · exact hset 0

end EventQueue

theorem ofSource_withdraw_self (q : EventQueue) (n : SourceId) : ofSource n (q.withdraw n).contents = 0 := by
  rw [EventQueue.contents_withdraw, ofSource, Multiset.filter_filter, Multiset.filter_eq_nil]
  rintro m - ⟨h, hn⟩
  exact hn h

theorem ofSource_withdraw_ne (q : EventQueue) {n k : SourceId} (h : k ≠ n) :
    ofSource k (q.withdraw n).contents = ofSource k q.contents := by
  rw [EventQueue.contents_withdraw, ofSource, Multiset.filter_filter]
  exact Multiset.filter_congr fun m _ => and_iff_left_of_imp fun hm => hm ▸ h

theorem ofSource_amend (q : EventQueue) (n k : SourceId) {f : Message → Message}
    (hf : ∀ m, (f m).source = m.source) :
    ofSource k (q.amend n f).contents = (ofSource k q.contents).map fun m => if m.source = n then f m else m := by
  rw [EventQueue.contents_amend, ofSource, Multiset.filter_map]
  refine congrArg _ (Multiset.filter_congr fun m _ => ?_)
  rw [Function.comp_apply, apply_ite Message.source, hf, ite_self]

theorem ofSource_amend_self (q : EventQueue) (n : SourceId) {f : Message → Message}
    (hf : ∀ m, (f m).source = m.source) :
    ofSource n (q.amend n f).contents = (ofSource n q.contents).map f := by
  rw [ofSource_amend q n n hf]
  exact Multiset.map_congr rfl fun m hm => if_pos (mem_ofSource.1 hm).2

theorem ofSource_amend_ne (q : EventQueue) {n k : SourceId} (h : k ≠ n) {f : Message → Message}
    (hf : ∀ m, (f m).source = m.source) :
    ofSource k (q.amend n f).contents = ofSource k q.contents := by
  rw [ofSource_amend q n k hf]
  refine (Multiset.map_congr rfl fun m hm => if_neg ?_).trans (Multiset.map_id _)
  rw [(mem_ofSource.1 hm).2]
  exact h

end Sys2Proof.Machine
end

section
/-! PROOFS. The law of the Source Table, and what every operation of the Source Table makes of it. -/

namespace Sys2Proof.Machine

namespace State

/-- Source n is lawful, with the messages F in flight and the sources D delivered. -/
def LawfulAt (s : State) (F : Multiset Message) (D : Multiset SourceId) (n : SourceId) : Prop :=
  (s.src n).Lawful n (s.qualified n) (ofSource n s.queue.contents) (ofSource n F) (D.count n)

/-- The law of the Source Table, with the messages F in flight and the sources D delivered. -/
def TableLaw (s : State) (F : Multiset Message) (D : Multiset SourceId) : Prop :=
  s.queue.Classed ∧ ∀ n, s.LawfulAt F D n

/-- The law of the Source Table, but that a message queued for source n may have lost its level: the state in the
middle of an event that changes the qualified level of source n (R6, R46). -/
structure Unsettled (s : State) (F : Multiset Message) (D : Multiset SourceId) (n : SourceId) : Prop where
  classed : s.queue.Classed
  others : ∀ k ≠ n, s.LawfulAt F D k
  self : ∃ level, (s.src n).Lawful n level (ofSource n s.queue.contents) (ofSource n F) (D.count n)

variable {s t : State} {F F' : Multiset Message} {D D' : Multiset SourceId} {n : SourceId}

theorem TableLaw.classed (h : s.TableLaw F D) : s.queue.Classed := h.1

theorem TableLaw.at_source (h : s.TableLaw F D) (n : SourceId) : s.LawfulAt F D n := h.2 n

theorem TableLaw.mk (hq : s.queue.Classed) (hn : ∀ n, s.LawfulAt F D n) : s.TableLaw F D := ⟨hq, hn⟩

theorem TableLaw.unsettled (h : s.TableLaw F D) (n : SourceId) : s.Unsettled F D n :=
  ⟨h.classed, fun k _ => h.at_source k, _, h.at_source n⟩

/-- Where a LEVEL source is not QUEUED, or still asserted, nothing was lost. -/
theorem Unsettled.settled (h : s.Unsettled F D n)
    (hq : (s.src n).state = .queued → (s.src n).sense.isLevel = true → s.qualified n = true) :
    s.TableLaw F D := by
  refine .mk h.classed fun k => ?_
  rcases eq_or_ne k n with rfl | hk
  · obtain ⟨_, hself⟩ := h.self
    exact hself.relevel hq
  · exact h.others k hk

/-- A source left alone stays lawful. -/
theorem LawfulAt.congr {k : SourceId} (h : s.LawfulAt F D k) (hlines : t.lines = s.lines)
    (hsoft : t.softLevels = s.softLevels) (hsrc : t.src k = s.src k)
    (hqueue : ofSource k t.queue.contents = ofSource k s.queue.contents)
    (hF : ofSource k F' = ofSource k F) (hD : D'.count k = D.count k) : t.LawfulAt F' D' k := by
  rw [LawfulAt, hsrc, hqueue, hF, hD, qualified_congr hlines hsoft (congrArg Source.sense hsrc)]
  exact h

/-- The law speaks of the Event Queue, the entries, the lines and the soft level bits alone. -/
theorem TableLaw.congr (h : s.TableLaw F D) (hqueue : t.queue = s.queue := by rfl)
    (hsources : t.sources = s.sources := by rfl) (hlines : t.lines = s.lines := by rfl)
    (hsoft : t.softLevels = s.softLevels := by rfl) : t.TableLaw F D := by
  refine .mk (hqueue ▸ h.classed) fun n => ?_
  exact (h.at_source n).congr hlines hsoft (by rw [src, src, hsources]) (by rw [hqueue]) rfl rfl

/-- The entry of source n replaced by one of the same SENSE, with a queue, messages in flight and places that
differ in source n alone. -/
theorem Unsettled.replace (h : s.Unsettled F D n) (q : EventQueue) (e : Source) (hq : q.Classed)
    (hqueue : ∀ k ≠ n, ofSource k q.contents = ofSource k s.queue.contents)
    (hF : ∀ k ≠ n, ofSource k F' = ofSource k F) (hD : ∀ k ≠ n, D'.count k = D.count k)
    (hsense : e.sense = (s.src n).sense)
    (hn : e.Lawful n (s.qualified n) (ofSource n q.contents) (ofSource n F') (D'.count n)) :
    ((s.setQueue q).setSrc n e).TableLaw F' D' := by
  refine .mk hq fun k => ?_
  rcases eq_or_ne k n with rfl | hk
  · have hlevel : ((s.setQueue q).setSrc k e).qualified k = s.qualified k :=
      qualified_congr rfl rfl (by rw [setSrc_src_self, hsense])
    rw [LawfulAt, hlevel, setSrc_src_self]
    exact hn
  · exact (h.others k hk).congr rfl rfl (setSrc_src_ne _ _ _ _ hk) (hqueue k hk) (hF k hk) (hD k hk)

/-- The same with the queue left alone. -/
theorem TableLaw.setSrc (h : s.TableLaw F D) (n : SourceId) (e : Source)
    (hF : ∀ k ≠ n, ofSource k F' = ofSource k F) (hD : ∀ k ≠ n, D'.count k = D.count k)
    (hsense : e.sense = (s.src n).sense)
    (hn : e.Lawful n (s.qualified n) (ofSource n s.queue.contents) (ofSource n F') (D'.count n)) :
    (s.setSrc n e).TableLaw F' D' :=
  (h.unsettled n).replace s.queue e h.classed (fun _ _ => rfl) hF hD hsense hn

/-- The same with the messages in flight and the places left alone too. -/
theorem TableLaw.setSrc_alone (h : s.TableLaw F D) (n : SourceId) (e : Source)
    (hsense : e.sense = (s.src n).sense)
    (hn : e.Lawful n (s.qualified n) (ofSource n s.queue.contents) (ofSource n F) (D.count n)) :
    (s.setSrc n e).TableLaw F D :=
  h.setSrc n e (fun _ _ => rfl) (fun _ _ => rfl) hsense hn

/-! ### Messages made and withdrawn -/

theorem carries_message (e : Source) (n : SourceId) (count : Byte) (overrun resent : Bool) (hc : count ≠ 0)
    (hl : e.sense.isLevel = true → count = 1 ∧ overrun = false) :
    e.Carries (e.message n count overrun resent) := ⟨rfl, rfl, rfl, rfl, hc, hl⟩

/-- What a new message of a source must meet (R23, R40, R41). -/
structure MayRaise (s : State) (n : SourceId) (count : Byte) (overrun : Bool) : Prop where
  idle : (s.src n).state = .idle
  enabled : (s.src n).enable = true
  unmasked : (s.src n).mask = false
  counted : count ≠ 0
  level : (s.src n).sense.isLevel = true → count = 1 ∧ overrun = false ∧ s.qualified n = true

/-- A queue with one more message of source n, which becomes QUEUED (R41). -/
theorem Unsettled.raise (h : s.Unsettled F D n) {count : Byte} {overrun resent : Bool}
    (hr : s.MayRaise n count overrun) (q : EventQueue) (hq : q.Classed)
    (hc : q.contents = (s.src n).message n count overrun resent ::ₘ s.queue.contents) :
    ((s.setQueue q).setSrc n { s.src n with state := .queued }).TableLaw F D := by
  obtain ⟨_, hself⟩ := h.self
  refine h.replace q _ hq (fun k hk => ?_) (fun _ _ => rfl) (fun _ _ => rfl) rfl ?_
  · rw [hc]
    exact ofSource_cons_ne hk _
  · rw [hc]
    have hcons := ofSource_cons_self ((s.src n).message n count overrun resent) s.queue.contents
    exact hcons ▸ hself.raise hr.idle hr.enabled hr.unmasked
      (carries_message _ n count overrun resent hr.counted fun hl => ⟨(hr.level hl).1, (hr.level hl).2.1⟩)
      fun hl => (hr.level hl).2.2

theorem Unsettled.queueTail (h : s.Unsettled F D n) {count : Byte} {overrun : Bool} (resent : Bool)
    (hr : s.MayRaise n count overrun) : (s.queueTail n count overrun resent).TableLaw F D :=
  h.raise hr _ (h.classed.append _) (s.queue.contents_append _)

theorem TableLaw.queueTail (h : s.TableLaw F D) {count : Byte} {overrun : Bool} (resent : Bool)
    (hr : s.MayRaise n count overrun) : (s.queueTail n count overrun resent).TableLaw F D :=
  (h.unsettled n).queueTail resent hr

theorem TableLaw.queueFront (h : s.TableLaw F D) {count : Byte} {overrun : Bool}
    (hr : s.MayRaise n count overrun) : (s.queueFront n count overrun).TableLaw F D :=
  (h.unsettled n).raise hr _ (h.classed.frontInsert _) (s.queue.contents_frontInsert _)

/-- Re-evaluation of a source in IDLE (R23). -/
theorem TableLaw.reevaluate (h : s.TableLaw F D) (hidle : (s.src n).state = .idle) (resent : Bool) :
    (s.reevaluate n resent).TableLaw F D := by
  unfold State.reevaluate
  split
  next hr =>
    obtain ⟨he, hm, -, hq⟩ := (s.raisable_iff n).1 hr
    exact h.queueTail resent ⟨hidle, he, hm, by decide, fun _ => ⟨rfl, rfl, hq⟩⟩
  next => exact h

/-- The entry of source n with a message withdrawn: the source goes to IDLE (R41, R72). -/
theorem Unsettled.withdraw (h : s.Unsettled F D n) (hs : (s.src n).state = .queued) (e : Source)
    (hsense : e.sense = (s.src n).sense) (he : ∀ level, e.Lawful n level 0 0 0) :
    ((s.setQueue (s.queue.withdraw n)).setSrc n e).TableLaw F D := by
  obtain ⟨_, hself⟩ := h.self
  refine h.replace _ e (h.classed.withdraw n) (fun k hk => ofSource_withdraw_ne _ hk) (fun _ _ => rfl)
    (fun _ _ => rfl) hsense ?_
  rw [ofSource_withdraw_self, hself.sent_eq_zero (by simp [hs]), hself.held_eq_zero (by simp [hs])]
  exact he _

theorem Unsettled.withdrawSource (h : s.Unsettled F D n) (hs : (s.src n).state = .queued) :
    (s.withdrawSource n).TableLaw F D := by
  obtain ⟨_, hself⟩ := h.self
  have hp : (s.src n).pending = 0 := hself.pending_eq_zero (by simp [hs])
  exact h.withdraw hs { s.src n with state := .idle } rfl fun _ => .quiet hself.vector hself.soft rfl hp
    (hself.pendOvr_eq_false hp) (hself.holdoff_eq_none (by simp [hs]))

/-! ### Reports -/

/-- The message that `messageOf` finds is the one message of a QUEUED source. -/
theorem TableLaw.eq_of_messageOf (h : s.TableLaw F D) {m : Message} (hm : s.messageOf n = some m) :
    ofSource n s.queue.contents = {m} := by
  have hmem : m ∈ ofSource n s.queue.contents :=
    mem_ofSource.2 ⟨List.mem_of_find?_eq_some hm, by simpa using List.find?_some hm⟩
  have hstate : (s.src n).state = .queued := by
    by_contra hs
    exact absurd ((h.at_source n).queued_eq_zero hs ▸ hmem) (Multiset.notMem_zero m)
  obtain ⟨x, hx⟩ := (h.at_source n).exists_queued hstate
  rw [hx, Multiset.mem_singleton] at hmem
  rw [hx, hmem]

/-- The queued message of an EDGE source changed in COUNT and OVERRUN (R45, R50). -/
theorem TableLaw.amend (h : s.TableLaw F D) {m : Message} (hm : s.messageOf n = some m) (f : Message → Message)
    (hsource : ∀ x, (f x).source = x.source) (hprio : ∀ x, (f x).prio = x.prio)
    (hf : (s.src n).Carries m → (s.src n).Carries (f m)) (hlevel : (f m).level = m.level) :
    (s.setQueue (s.queue.amend n f)).TableLaw F D := by
  refine .mk (h.classed.amend n hprio) fun k => ?_
  rcases eq_or_ne k n with rfl | hk
  · have hself := h.at_source k
    rw [LawfulAt, setQueue_queue, ofSource_amend_self s.queue k hsource]
    refine hself.amend f fun x hx => ?_
    obtain rfl : x = m := by simpa [h.eq_of_messageOf hm] using hx
    exact ⟨hf (hself.queuedCarried x hx).1, hlevel ▸ (hself.queuedCarried x hx).2⟩
  · exact (h.at_source k).congr rfl rfl rfl (ofSource_amend_ne s.queue hk hsource) rfl rfl

theorem TableLaw.coalesce (h : s.TableLaw F D) (hl : (s.src n).sense.isLevel = false) :
    (s.coalesce n).TableLaw F D := by
  unfold State.coalesce
  split
  next => exact h
  next m hm =>
    split
    next =>
      exact h.amend (f := fun m => { m with overrun := true }) hm (fun _ => rfl) (fun _ => rfl)
        (fun hc => hc.amend hl hc.count_ne_zero true) rfl
    next hcount =>
      have hne : m.count + 1 ≠ 0 := by
        intro h0
        exact hcount (by bv_omega)
      exact h.amend (f := fun m => { m with count := m.count + 1 }) hm (fun _ => rfl) (fun _ => rfl)
        (fun hc => hc.amend hl hne m.overrun) rfl

theorem TableLaw.countPending (h : s.TableLaw F D) (hs : (s.src n).state = .sent ∨ (s.src n).state = .holdoff)
    (hm : (s.src n).mask = false) (hl : (s.src n).sense.isLevel = false) : (s.countPending n).TableLaw F D := by
  unfold State.countPending
  split
  next hp =>
    exact h.setSrc_alone n { s.src n with pendOvr := true } rfl ((h.at_source n).recount hs hm hl fun _ => hp)
  next hp =>
    refine h.setSrc_alone n { s.src n with pending := (s.src n).pending + 1 } rfl
      ((h.at_source n).recount hs hm hl fun ho => ?_)
    exact absurd ((h.at_source n).pendOvr ho) hp

/-- An edge event at a source of class EDGE (R42, R43, R45, R49). -/
theorem TableLaw.edgeEvent (h : s.TableLaw F D) (hl : (s.src n).sense.isLevel = false) :
    (s.edgeEvent n).TableLaw F D := by
  unfold State.edgeEvent
  split
  next ha =>
    rw [Bool.and_eq_true, Bool.not_eq_true'] at ha
    cases hs : (s.src n).state with
    | idle => exact h.queueTail false ⟨hs, ha.1, ha.2, by decide, by simp [hl]⟩
    | queued => exact h.coalesce hl
    | sent => exact h.countPending (.inl hs) ha.2 hl
    | delivered => exact h
    | holdoff => exact h.countPending (.inr hs) ha.2 hl
  next => exact h

/-- A level change at a source whose qualified level has just changed (R42, R44, R46, R51). -/
theorem Unsettled.levelChange (h : s.Unsettled F D n) (asserted : Bool)
    (ha : s.qualified n = asserted) : (s.levelChange n asserted).TableLaw F D := by
  unfold State.levelChange
  split
  next he =>
    cases hs : (s.src n).state with
    | idle =>
      dsimp only
      split
      next hr =>
        rw [Bool.and_eq_true, Bool.not_eq_true'] at hr
        exact h.queueTail false ⟨hs, he, hr.2, by decide, fun _ => ⟨rfl, rfl, ha.trans hr.1⟩⟩
      next => exact h.settled (by simp [hs])
    | queued =>
      dsimp only
      split
      next ht => exact h.settled fun _ _ => ha.trans ht
      next => exact h.withdrawSource hs
    | sent => exact h.settled (by simp [hs])
    | delivered => exact h.settled (by simp [hs])
    | holdoff => exact h.settled (by simp [hs])
  next he =>
    obtain ⟨_, hself⟩ := h.self
    have hidle := hself.disabled (by simpa using he)
    exact h.settled (by simp [hidle])

/-! ### Lines and soft requests -/

/-- A line that changes unsettles its own source alone (R4). -/
theorem TableLaw.setLine (h : s.TableLaw F D) (l : LineId) (x : Line) :
    (s.setLine l x).Unsettled F D (lineSource l) := by
  refine ⟨h.classed, fun k hk => ?_, _, h.at_source (lineSource l)⟩
  have hlevel : (s.setLine l x).qualified k = s.qualified k := by
    unfold State.qualified
    split
    next hlt =>
      have hne : (⟨k.val, hlt⟩ : LineId) ≠ l := by
        rintro rfl
        exact hk rfl
      rw [setLine_line_ne _ _ _ _ hne, setLine_src]
    next => rfl
  rw [LawfulAt, hlevel]
  exact h.at_source k

/-- A soft level bit that changes unsettles its own source alone (R10). -/
theorem TableLaw.setSoftLevel (h : s.TableLaw F D) (k : SoftId) (b : Bool) :
    (s.setSoftLevel k b).Unsettled F D (softSource k) := by
  refine ⟨h.classed, fun j hj => ?_, _, h.at_source (softSource k)⟩
  have hlevel : (s.setSoftLevel k b).qualified j = s.qualified j := by
    unfold State.qualified
    split
    next => rfl
    next hlt =>
      have hne : (⟨j.val - 32, by omega⟩ : SoftId) ≠ k := by
        rintro rfl
        exact hj (Fin.ext (by simp [softSource]; omega))
      rw [setSoftLevel_softLevel_ne _ _ _ _ hne]
  rw [LawfulAt, hlevel]
  exact h.at_source j

/-- The accepted value of a line left alone, its source stays settled. -/
theorem TableLaw.setLine_accepted (h : s.TableLaw F D) (l : LineId) (x : Line)
    (hx : x.accepted = (s.line l).accepted) : (s.setLine l x).TableLaw F D := by
  refine (h.setLine l x).settled fun hq hl => ?_
  have hlevel : (s.setLine l x).qualified (lineSource l) = s.qualified (lineSource l) := by
    rw [qualified_line, qualified_line, setLine_line_self, hx, setLine_src]
  obtain ⟨m, hm⟩ := (h.at_source (lineSource l)).exists_queued hq
  obtain ⟨hc, hasserted⟩ := (h.at_source (lineSource l)).queuedCarried m (by simp [hm])
  rw [hlevel]
  exact hasserted (hc.level_eq.trans hl)

/-- The report of an acceptance, by SENSE (R5). -/
theorem Unsettled.reportAcceptance {l : LineId} (h : s.Unsettled F D (lineSource l)) (rising : Bool)
    (ha : (s.line l).accepted = rising) : (s.reportAcceptance (lineSource l) rising).TableLaw F D := by
  have hq := s.qualified_line l
  unfold State.reportAcceptance
  cases hs : (s.src (lineSource l)).sense with
  | levelHigh => exact h.levelChange rising (by simpa [hs, ha] using hq)
  | levelLow => exact h.levelChange (!rising) (by simpa [hs, ha] using hq)
  | rising =>
    have hedge : (s.src (lineSource l)).sense.isLevel = false := by rw [hs]; rfl
    have hlaw : s.TableLaw F D := h.settled (by simp [hedge])
    cases rising with
    | false => exact hlaw
    | true => exact hlaw.edgeEvent hedge
  | falling =>
    have hedge : (s.src (lineSource l)).sense.isLevel = false := by rw [hs]; rfl
    have hlaw : s.TableLaw F D := h.settled (by simp [hedge])
    cases rising with
    | false => exact hlaw.edgeEvent hedge
    | true => exact hlaw
  | anyEdge =>
    have hedge : (s.src (lineSource l)).sense.isLevel = false := by rw [hs]; rfl
    exact (h.settled (by simp [hedge])).edgeEvent hedge

theorem TableLaw.acceptLine (h : s.TableLaw F D) (l : LineId) : (s.acceptLine l).TableLaw F D := by
  unfold State.acceptLine
  split
  next => exact h.setLine_accepted l _ rfl
  next => exact (h.setLine l _).reportAcceptance _ (by rw [setLine_line_self])

theorem TableLaw.intervalExpiry (h : s.TableLaw F D) (l : LineId) : (s.intervalExpiry l).TableLaw F D := by
  unfold State.intervalExpiry
  split
  next => exact h.acceptLine l
  next => exact h

theorem TableLaw.observe (h : s.TableLaw F D) (l : LineId) (level : Bool) :
    (s.observe l level).TableLaw F D := by
  have hset : (s.setLine l { s.line l with pin := level, observed := level }).TableLaw F D :=
    h.setLine_accepted l _ rfl
  unfold State.observe
  split
  next => exact h.setLine_accepted l _ rfl
  next =>
    dsimp only
    split
    next => exact hset.acceptLine l
    next =>
      split
      next => exact hset.setLine_accepted l _ rfl
      next => exact hset.setLine_accepted l _ rfl

/-- A soft source that is not of class LEVEL is of class EDGE (R12). -/
theorem TableLaw.raiseSoft (h : s.TableLaw F D) (k : SoftId) : (s.raiseSoft k).TableLaw F D := by
  unfold State.raiseSoft
  split
  next =>
    split
    next => exact h
    next =>
      exact (h.setSoftLevel k true).levelChange true (by rw [qualified_soft, setSoftLevel_softLevel_self])
  next hl => exact h.edgeEvent (by simpa using hl)

theorem TableLaw.lowerSoft (h : s.TableLaw F D) (k : SoftId) : (s.lowerSoft k).TableLaw F D := by
  unfold State.lowerSoft
  split
  next =>
    split
    next =>
      exact (h.setSoftLevel k false).levelChange false (by rw [qualified_soft, setSoftLevel_softLevel_self])
    next => exact h
  next => exact h

theorem TableLaw.softRequest (h : s.TableLaw F D) (r : Request) (v : Word) (take : SoftId → State)
    (htake : ∀ k, (take k).TableLaw F D) : (s.softRequest r v take).TableLaw F D := by
  unfold State.softRequest
  split
  · exact h
  · split
    · exact htake _
    · exact h

/-! ### Masks -/

theorem TableLaw.maskSet (h : s.TableLaw F D) (n : SourceId) : (s.maskSet n).TableLaw F D := by
  unfold State.maskSet
  split
  next hs =>
    have hself := h.at_source n
    rw [State.withdrawSource, setSrc_queue, setSrc_src_self]
    change (((s.setQueue (s.queue.withdraw n)).setSrc n _).setSrc n _).TableLaw F D
    rw [setSrc_setSrc]
    exact (h.unsettled n).withdraw hs _ rfl fun _ => .quiet hself.vector hself.soft rfl rfl rfl
      (hself.holdoff_eq_none (by simp [hs]))
  next hs => exact h.setSrc_alone n _ rfl ((h.at_source n).mask hs)

theorem TableLaw.maskSetAll (h : s.TableLaw F D) (ns : List SourceId) : (s.maskSetAll ns).TableLaw F D := by
  induction ns generalizing s with
  | nil => exact h
  | cons n ns ih => exact ih (h.maskSet n)

theorem TableLaw.unmask (h : s.TableLaw F D) (n : SourceId) :
    (s.setSrc n { s.src n with mask := false }).TableLaw F D :=
  h.setSrc_alone n _ rfl (h.at_source n).unmask

theorem TableLaw.maskClear (h : s.TableLaw F D) (n : SourceId) : (s.maskClear n).TableLaw F D := by
  unfold State.maskClear
  split
  next hs => exact (h.unmask n).reevaluate (by rw [setSrc_src_self]; exact hs) false
  next => exact h.unmask n

theorem TableLaw.unmaskAll (h : s.TableLaw F D) (ns : List SourceId) : (s.unmaskAll ns).TableLaw F D := by
  induction ns generalizing s with
  | nil => exact h
  | cons n ns ih => exact ih (h.unmask n)

/-- Re-evaluation of one source leaves the others as they were (R23). -/
theorem reevaluate_src_ne (s : State) (resent : Bool) {n k : SourceId} (h : k ≠ n) :
    (s.reevaluate n resent).src k = s.src k := by
  unfold State.reevaluate
  split
  · exact setSrc_src_ne _ _ _ _ h
  · rfl

theorem TableLaw.reevaluateAll (h : s.TableLaw F D) (ns : List SourceId) (hnodup : ns.Nodup)
    (hidle : ∀ n ∈ ns, (s.src n).state = .idle) : (s.reevaluateAll ns).TableLaw F D := by
  induction ns generalizing s with
  | nil => exact h
  | cons n ns ih =>
    obtain ⟨hn, hns⟩ := List.nodup_cons.1 hnodup
    refine ih (h.reevaluate (hidle n List.mem_cons_self) false) hns fun k hk => ?_
    rw [reevaluate_src_ne _ _ (ne_of_mem_of_not_mem hk hn)]
    exact hidle k (List.mem_cons_of_mem n hk)

/-- The mask clear requests of one write, which names each source once (R29, R31). -/
theorem TableLaw.maskClearAll (h : s.TableLaw F D) (ns : List SourceId) (hnodup : ns.Nodup) :
    (s.maskClearAll ns).TableLaw F D := by
  rw [maskClearAll_eq]
  exact (h.unmaskAll ns).reevaluateAll _ (nodup_raiseOrder _ ns hnodup) fun n hn => 
    ((mem_raiseOrder _ ns n).1 hn).2.1

/-! ### SRC_CONFIG, FORCE_IDLE and TABLE_CLEAR -/

/-- An idle source of which nothing is queued takes other configuration fields, whatever its level becomes (R7,
R27). -/
theorem TableLaw.configure (h : s.TableLaw F D) (hs : (s.src n).state = .idle) (w : ConfigWrite) (sense : Sense)
    (hsense : w.checkedSense n = some sense) :
    ((s.setSrc n (w.apply sense (s.src n))).recomputeIfChanged n (s.src n)).TableLaw F D := by
  obtain ⟨-, hsoft, hvector⟩ := (checkedSense_eq_some_iff w n sense).1 hsense
  have hself := h.at_source n
  have hp := hself.pending_eq_zero (by simp [hs])
  have hset : (s.setSrc n (w.apply sense (s.src n))).Unsettled F D n := by
    refine ⟨h.classed, fun k hk => ?_, true, ?_⟩
    · exact (h.at_source k).congr rfl rfl (setSrc_src_ne _ _ _ _ hk) rfl rfl rfl
    · rw [setSrc_src_self, setSrc_queue, hself.queued_eq_zero (by simp [hs]), hself.sent_eq_zero (by simp [hs]),
        hself.held_eq_zero (by simp [hs])]
      exact .quiet hvector hsoft hs hp (hself.pendOvr_eq_false hp) (hself.holdoff_eq_none (by simp [hs]))
  have hnot : ((s.setSrc n (w.apply sense (s.src n))).src n).state ≠ .queued := by
    rw [setSrc_src_self]
    simp [ConfigWrite.apply, hs]
  have hlaw := hset.settled fun hq => absurd hq hnot
  unfold recomputeIfChanged
  split
  next hn =>
    split
    next => exact (hlaw.setLine ⟨n.val, hn⟩ _).settled fun hq => absurd hq hnot
    next => exact hlaw
  next => exact hlaw

theorem TableLaw.takeConfig (h : s.TableLaw F D) (hs : (s.src n).state = .idle) (w : ConfigWrite) (sense : Sense)
    (hsense : w.checkedSense n = some sense) : (s.takeConfig n w sense).TableLaw F D := by
  have hlaw := h.configure hs w sense hsense
  unfold State.takeConfig
  split
  next =>
    refine hlaw.reevaluate ?_ false
    rw [recomputeIfChanged_src, setSrc_src_self]
    exact hs
  next => exact hlaw

theorem TableLaw.writeSrcConfig (h : s.TableLaw F D) (v : Word) : (s.writeSrcConfig v).TableLaw F D := by
  by_cases hbusy : (ConfigWrite.ofWord v).busy (s.src s.regs.srcIndex) = true
  · rw [s.writeSrcConfig_busy v hbusy]
    exact h
  · cases hsense : (ConfigWrite.ofWord v).checkedSense s.regs.srcIndex with
    | none =>
      rw [s.writeSrcConfig_badValue v hbusy hsense]
      exact h
    | some sense =>
      rw [s.writeSrcConfig_taken v sense hbusy hsense]
      refine h.takeConfig ?_ _ sense hsense
      by_contra hs
      exact hbusy ((busy_iff _ v).2 (.inl hs))

/-- A source of which nothing is queued or in flight goes to IDLE, off the Delivered List if it stood there, and is
re-evaluated (R34, R56, R59, R64). -/
theorem TableLaw.release (h : s.TableLaw F D) (e : Source)
    (hs : (s.src n).state = .delivered ∨ (s.src n).state = .holdoff)
    (hD : ∀ k ≠ n, D'.count k = D.count k) (hn : D'.count n = 0) (hsense : e.sense = (s.src n).sense)
    (hidle : e.state = .idle) (he : ∀ level, e.Lawful n level 0 0 0) (resent : Bool) :
    ((s.setSrc n e).reevaluate n resent).TableLaw F D' := by
  have hself := h.at_source n
  refine (h.setSrc n e (fun _ _ => rfl) hD hsense ?_).reevaluate (by rw [setSrc_src_self]; exact hidle) resent
  rw [hself.queued_eq_zero (by rcases hs with hs | hs <;> simp [hs]),
    hself.sent_eq_zero (by rcases hs with hs | hs <;> simp [hs]), hn]
  exact he _

/-- A DELIVERED source goes to IDLE as it leaves the Delivered List. -/
theorem TableLaw.undeliver (h : s.TableLaw F D) (hs : (s.src n).state = .delivered)
    (hD : ∀ k ≠ n, D'.count k = D.count k) (hn : D'.count n = 0) (resent : Bool) :
    ((s.setSrc n { s.src n with state := .idle }).reevaluate n resent).TableLaw F D' := by
  have hself := h.at_source n
  have hp := hself.pending_eq_zero (by simp [hs])
  exact h.release { s.src n with state := .idle } (.inl hs) hD hn rfl rfl
    (fun _ => .quiet hself.vector hself.soft rfl hp (hself.pendOvr_eq_false hp)
      (hself.holdoff_eq_none (by simp [hs]))) resent

/-- A Completion releases a source of the Delivered List (R56). -/
theorem TableLaw.releaseSource (h : s.TableLaw F (n ::ₘ D)) : (s.releaseSource n).TableLaw F D := by
  have hself := h.at_source n
  have hs : (s.src n).state = .delivered := hself.state_delivered (by simp)
  have hn : D.count n = 0 := by simpa [hs] using hself.heldOnce
  have hD : ∀ k ≠ n, D.count k = (n ::ₘ D).count k := fun k hk => (Multiset.count_cons_of_ne hk D).symm
  unfold State.releaseSource
  split
  next hh =>
    refine h.setSrc n { s.src n with state := .holdoff, holdoff := some s.now } (fun _ _ => rfl) hD rfl ?_
    rw [hself.sent_eq_zero (by simp [hs]), hn]
    exact hself.startHoldoff (by simp [hs]) hh s.now
  next => exact h.undeliver hs hD hn false

/-- Session end takes a source off the Delivered List (R64). -/
theorem TableLaw.abandonSource (h : s.TableLaw F (n ::ₘ D)) : (s.abandonSource n).TableLaw F D := by
  have hself := h.at_source n
  have hs : (s.src n).state = .delivered := hself.state_delivered (by simp)
  exact h.undeliver hs (fun k hk => (Multiset.count_cons_of_ne hk D).symm)
    (by simpa [hs] using hself.heldOnce) true

theorem TableLaw.releaseAll (ns : List SourceId) (h : s.TableLaw F (ns + D)) :
    (ns.foldl State.releaseSource s).TableLaw F D := by
  induction ns generalizing s with
  | nil => simpa using h
  | cons n ns ih => exact ih (TableLaw.releaseSource (by simpa [← Multiset.cons_coe] using h))

theorem TableLaw.abandonAll (ns : List SourceId) (h : s.TableLaw F (ns + D)) :
    (ns.foldl State.abandonSource s).TableLaw F D := by
  induction ns generalizing s with
  | nil => simpa using h
  | cons n ns ih => exact ih (TableLaw.abandonSource (by simpa [← Multiset.cons_coe] using h))

/-- FORCE_IDLE, with the Delivered List as it then stands (R34). -/
theorem TableLaw.forceIdle (h : s.TableLaw F s.delivered) (op : Byte) :
    (s.forceIdle op).TableLaw F (s.forceIdle op).delivered := by
  unfold State.forceIdle
  cases sourceOf op.toNat with
  | none => exact h
  | some n =>
    change (s.forceIdleSource n op).TableLaw F (s.forceIdleSource n op).delivered
    have hself := h.at_source n
    cases hs : (s.src n).state with
    | idle | queued | sent =>
      rw [s.forceIdleSource_busy n op (by simp [hs])]
      exact h
    | delivered =>
      have hlist : (s.forceIdleSource n op).delivered = s.delivered.filter fun m => m ≠ n := by
        rw [s.forceIdleSource_delivered n op hs]
        exact apply_ite State.delivered _ _ _ |>.trans (ite_self _)
      rw [hlist, s.forceIdleSource_delivered n op hs, ← reevaluate_eq]
      refine TableLaw.undeliver (s := s.setDelivered (s.delivered.filter fun m => m ≠ n)) h hs (fun k hk => ?_) ?_ false
      · simp [List.count_filter, hk]
      · simp
    | holdoff =>
      have hlist : (s.forceIdleSource n op).delivered = s.delivered := by
        rw [s.forceIdleSource_holdoff n op hs]
        exact apply_ite State.delivered _ _ _ |>.trans (ite_self _)
      rw [hlist, s.forceIdleSource_holdoff n op hs, ← reevaluate_eq]
      exact h.release { s.src n with state := .idle, holdoff := none, pending := 0, pendOvr := false } (.inr hs)
        (fun _ _ => rfl) (hself.held_eq_zero (by simp [hs])) rfl rfl (fun _ => hself.settle) false

/-- TABLE_CLEAR with nothing in flight and nothing delivered (R36). -/
theorem TableLaw.cleared (h : s.TableLaw 0 0) :
    ((s.setSources (s.sources.map Source.cleared)).setQueue (Vector.replicate 4 [])).TableLaw 0 0 := by
  have hempty : EventQueue.contents (Vector.replicate 4 []) = 0 := rfl
  refine .mk (fun c m hm => by simp at hm) fun n => ?_
  have hself := h.at_source n
  have hidle : (s.src n).cleared.state = .idle := by
    have hsent : (s.src n).state ≠ .sent := by simpa [ofSource] using hself.sentOnce
    have hheld : (s.src n).state ≠ .delivered := by simpa using hself.heldOnce
    unfold Source.cleared
    cases hs : (s.src n).state <;> simp_all
  rw [LawfulAt, setQueue_src, setSources_map_src, setQueue_queue, hempty]
  exact Source.Lawful.quiet (e := (s.src n).cleared) hself.vector hself.soft hidle rfl rfl rfl

/-! ### Holdoff and acknowledgment -/

/-- A source that has just become IDLE may raise a message made of what it held. -/
theorem mayRaise_quieted (s : State) (n : SourceId) {count : Byte} {overrun : Bool}
    (he : (s.src n).enable = true) (hm : (s.src n).mask = false) (hc : count ≠ 0)
    (hl : (s.src n).sense.isLevel = true → count = 1 ∧ overrun = false ∧ s.qualified n = true) :
    (s.setSrc n (s.src n).quieted).MayRaise n count overrun := by
  have hlevel : (s.setSrc n (s.src n).quieted).qualified n = s.qualified n :=
    qualified_congr rfl rfl (by rw [setSrc_src_self]; rfl)
  constructor
  · rw [setSrc_src_self]
    rfl
  · rw [setSrc_src_self]
    exact he
  · rw [setSrc_src_self]
    exact hm
  · exact hc
  · rw [setSrc_src_self, hlevel]
    exact hl

/-- PENDING edges of an EDGE source delivered, where the source may be IDLE (R53, R59). -/
theorem TableLaw.flushPending (h : (s.setSrc n (s.src n).quieted).TableLaw F D)
    (he : (s.src n).enable = true) (hl : (s.src n).sense.isLevel = false) : (s.flushPending n).TableLaw F D := by
  unfold State.flushPending
  dsimp only
  split
  next hp =>
    rw [Bool.and_eq_true, decide_eq_true_eq, Bool.not_eq_true'] at hp
    exact h.queueTail false (s.mayRaise_quieted n he hp.2 hp.1 (by simp [hl]))
  next => exact h

/-- Expiry of a holdoff timer (R59). -/
theorem TableLaw.holdoffExpiry (h : s.TableLaw F D) (n : SourceId) : (s.holdoffExpiry n).TableLaw F D := by
  have hself := h.at_source n
  by_cases ht : (s.src n).holdoff = none
  · rw [s.holdoffExpiry_stopped n ht]
    exact h
  · have hs : (s.src n).state = .holdoff := hself.timer.1 (Option.isSome_iff_ne_none.2 ht)
    cases hl : (s.src n).sense.isLevel with
    | true =>
      rw [s.holdoffExpiry_level n ht hl, ← reevaluate_eq]
      have hp : (s.src n).pending = 0 := by
        by_contra hp
        simp [(hself.pending hp).2.1] at hl
      exact h.release { s.src n with state := .idle, holdoff := none } (.inr hs) (fun _ _ => rfl)
        (hself.held_eq_zero (by simp [hs])) rfl rfl
        (fun _ => .quiet hself.vector hself.soft rfl hp (hself.pendOvr_eq_false hp) rfl) false
    | false =>
      rw [s.holdoffExpiry_edge n ht hl]
      have hsrc := s.setSrc_src_self n { s.src n with holdoff := none }
      refine TableLaw.flushPending ?_ (by rw [hsrc]; exact hself.enabled (by simp [hs])) (by rw [hsrc]; exact hl)
      rw [hsrc, setSrc_setSrc]
      refine h.setSrc_alone n _ rfl ?_
      rw [hself.queued_eq_zero (by simp [hs]), hself.sent_eq_zero (by simp [hs]),
        hself.held_eq_zero (by simp [hs])]
      exact hself.settle

/-- The frame of a message acknowledged, with the Delivered List as it then stands (R52, R53). -/
theorem TableLaw.ackSource {m : Message} (h : s.TableLaw (m ::ₘ F) s.delivered) :
    (s.ackSource m.source).TableLaw F (s.ackSource m.source).delivered := by
  have hself := h.at_source m.source
  rw [LawfulAt, ofSource_cons_self] at hself
  have hs : (s.src m.source).state = .sent := hself.state_sent (Multiset.mem_cons_self m _)
  have hF : ∀ k ≠ m.source, ofSource k F = ofSource k (m ::ₘ F) := fun k hk => (ofSource_cons_ne hk F).symm
  have hn : ofSource m.source F = 0 := by
    simpa [hs] using hself.sentOnce
  cases hl : (s.src m.source).sense.isLevel with
  | true =>
    have hlist : (s.ackSource m.source).delivered = s.delivered ++ [m.source] := by
      rw [ackSource_level s _ hl]
    rw [hlist, ackSource_level s _ hl]
    refine TableLaw.setSrc (s := s.setDelivered (s.delivered ++ [m.source])) h m.source
      { s.src m.source with state := .delivered } hF (fun k hk => ?_) rfl ?_
    · simp [List.count_eq_zero_of_not_mem, hk.symm]
    · have hcount : (↑(s.delivered ++ [m.source]) : Multiset SourceId).count m.source =
          (s.delivered : Multiset SourceId).count m.source + 1 := by simp
      rw [hcount, hn]
      exact hself.deliver hs hl
  | false =>
    by_cases hh : (s.src m.source).hold = 0
    · have hlist : (s.ackSource m.source).delivered = s.delivered := by
        rw [ackSource_edge s _ hl hh]
        exact apply_ite State.delivered _ _ _ |>.trans (ite_self _)
      rw [hlist, ackSource_edge s _ hl hh]
      refine TableLaw.flushPending ?_ (hself.enabled (by simp [hs])) hl
      refine h.setSrc m.source _ hF (fun _ _ => rfl) rfl ?_
      rw [hself.queued_eq_zero (by simp [hs]), hn, hself.held_eq_zero (by simp [hs])]
      exact hself.quieted (by simp [hs])
    · rw [ackSource_hold s _ hl hh]
      refine h.setSrc m.source { s.src m.source with state := .holdoff, holdoff := some s.now } hF
        (fun _ _ => rfl) rfl ?_
      rw [hn, hself.held_eq_zero (by simp [hs])]
      exact hself.startHoldoff (by simp [hs]) hh s.now

/-- Session end of a SENT source: its message goes back to the front of its class, or is withdrawn (R62, R63). -/
theorem TableLaw.requeueSource {m : Message} (h : s.TableLaw (m ::ₘ F) D) :
    (s.requeueSource m.source m.count m.overrun).TableLaw F D := by
  have hself := h.at_source m.source
  rw [LawfulAt, ofSource_cons_self] at hself
  have hs : (s.src m.source).state = .sent := hself.state_sent (Multiset.mem_cons_self m _)
  obtain ⟨-, -, -, -, hcount, -⟩ := hself.sentCarried m (Multiset.mem_cons_self m _)
  have hn : ofSource m.source F = 0 := by simpa [hs] using hself.sentOnce
  have hquiet : (s.setSrc m.source (s.src m.source).quieted).TableLaw F D := by
    refine h.setSrc m.source _ (fun k hk => (ofSource_cons_ne hk F).symm) (fun _ _ => rfl) rfl ?_
    rw [hself.queued_eq_zero (by simp [hs]), hn, hself.held_eq_zero (by simp [hs])]
    exact hself.quieted (by simp [hs])
  have hmay {count : Byte} {overrun : Bool} :=
    s.mayRaise_quieted m.source (count := count) (overrun := overrun) (hself.enabled (by simp [hs]))
  unfold State.requeueSource
  dsimp only
  split
  next hl =>
    split
    next hq =>
      rw [Bool.and_eq_true, Bool.not_eq_true'] at hq
      exact hquiet.queueFront (hmay hq.1 (by decide) fun _ => ⟨rfl, rfl, hq.2⟩)
    next => exact hquiet
  next hl =>
    split
    next => exact hquiet
    next hm =>
      split
      next => exact hquiet.queueFront (hmay (by simpa using hm) (by decide) fun h => absurd h hl)
      next hsum =>
        refine hquiet.queueFront (hmay (by simpa using hm) ?_ fun h => absurd h hl)
        intro h0
        exact hcount (by bv_omega)

/-- The grant of a queued message (R47, R73). -/
theorem TableLaw.grant (h : s.TableLaw F D) {m : Message} {ms : List Message}
    (hm : s.queue.messages = m :: ms) :
    ((s.setQueue s.queue.dropHead).setSrc m.source { s.src m.source with state := .sent }).TableLaw
      (m ::ₘ F) D := by
  have hself := h.at_source m.source
  have hold : s.queue.contents = m ::ₘ (ms : Multiset Message) := by
    rw [EventQueue.contents, hm]
    rfl
  have hnew : s.queue.dropHead.contents = ms := by
    rw [EventQueue.contents, EventQueue.messages_dropHead hm]
  rw [LawfulAt, hold, ofSource_cons_self] at hself
  have hs : (s.src m.source).state = .queued := by
    by_contra hs
    exact absurd (hself.queued_eq_zero hs) (by simp)
  have hrest : ofSource m.source (ms : Multiset Message) = 0 := by simpa [hs] using hself.queuedOnce
  refine (h.unsettled m.source).replace _ _ h.classed.dropHead (fun k hk => ?_)
    (fun k hk => ofSource_cons_ne hk F) (fun _ _ => rfl) rfl ?_
  · rw [hnew, hold, ofSource_cons_ne hk]
  · rw [hnew, hrest, ofSource_cons_self]
    exact hself.grant (Multiset.mem_cons_self m _)

end State

end Sys2Proof.Machine
end

section
/-! PROOFS. What the operations of the Source Table leave alone: `SameLink` says that the blocks of the link stand,
and `SameSide` that the Note Unit and the Delivered List stand too. -/

namespace Sys2Proof.Machine

/-- From s to t the blocks of the link, LINK_CFG, the local bus and the reset in progress stand. -/
structure SameLink (s t : State) : Prop where
  resetting : t.resetting = s.resetting := by rfl
  bus : t.bus = s.bus := by rfl
  arbiter : t.arbiter = s.arbiter := by rfl
  tx : t.tx = s.tx := by rfl
  window : t.window = s.window := by rfl
  receiver : t.receiver = s.receiver := by rfl
  session : t.session = s.session := by rfl
  replies : t.replies = s.replies := by rfl
  linkCfg : t.regs.linkCfg = s.regs.linkCfg := by rfl

/-- From s to t the Note Unit and the Delivered List stand too. -/
structure SameSide (s t : State) : Prop extends SameLink s t where
  notes : t.notes = s.notes := by rfl
  delivered : t.delivered = s.delivered := by rfl

namespace SameLink

variable {s t u : State}

theorem refl (s : State) : SameLink s s := {}

theorem trans (h : SameLink s t) (k : SameLink t u) : SameLink s u where
  resetting := k.resetting.trans h.resetting
  bus := k.bus.trans h.bus
  arbiter := k.arbiter.trans h.arbiter
  tx := k.tx.trans h.tx
  window := k.window.trans h.window
  receiver := k.receiver.trans h.receiver
  session := k.session.trans h.session
  replies := k.replies.trans h.replies
  linkCfg := k.linkCfg.trans h.linkCfg

theorem foldl {α : Type} {f : State → α → State} (h : ∀ t a, SameLink t (f t a)) (as : List α) (s : State) :
    SameLink s (as.foldl f s) := by
  induction as generalizing s with
  | nil => exact refl s
  | cons a as ih => exact (h s a).trans (ih (f s a))

end SameLink

namespace SameSide

variable {s t u : State}

theorem refl (s : State) : SameSide s s := {}

theorem trans (h : SameSide s t) (k : SameSide t u) : SameSide s u :=
  { h.toSameLink.trans k.toSameLink with
    notes := k.notes.trans h.notes
    delivered := k.delivered.trans h.delivered }

theorem ite {c : Prop} [Decidable c] (ht : SameSide s t) (hu : SameSide s u) :
    SameSide s (if c then t else u) := by
  split
  · exact ht
  · exact hu

theorem foldl {α : Type} {f : State → α → State} (h : ∀ t a, SameSide t (f t a)) (as : List α) (s : State) :
    SameSide s (as.foldl f s) := by
  induction as generalizing s with
  | nil => exact refl s
  | cons a as ih => exact (h s a).trans (ih (f s a))

/-! ### Flags, Event Queue and reports -/

theorem setRegs (s : State) (v : Registers) (h : v.linkCfg = s.regs.linkCfg := by rfl) :
    SameSide s (s.setRegs v) := { linkCfg := h }

theorem refuse (s : State) (r : Request) (operand : BitVec 16) (reason : RefuseReason) :
    SameSide s (s.refuse r operand reason) := {}

theorem reevaluate (s : State) (n : SourceId) (resent : Bool) : SameSide s (s.reevaluate n resent) := ite {} {}

theorem coalesce (s : State) (n : SourceId) : SameSide s (s.coalesce n) := by
  unfold State.coalesce
  cases s.messageOf n with
  | none => exact refl s
  | some m => exact ite {} {}

theorem countPending (s : State) (n : SourceId) : SameSide s (s.countPending n) := ite {} {}

theorem edgeEvent (s : State) (n : SourceId) : SameSide s (s.edgeEvent n) := by
  refine ite ?_ (refl s)
  cases (s.src n).state with
  | idle => exact {}
  | queued => exact coalesce s n
  | sent => exact countPending s n
  | delivered => exact refl s
  | holdoff => exact countPending s n

theorem levelChange (s : State) (n : SourceId) (asserted : Bool) : SameSide s (s.levelChange n asserted) := by
  refine ite ?_ (refl s)
  cases (s.src n).state with
  | idle => exact ite {} (refl s)
  | queued => exact ite (refl s) {}
  | sent => exact refl s
  | delivered => exact refl s
  | holdoff => exact refl s

theorem reportAcceptance (s : State) (n : SourceId) (rising : Bool) :
    SameSide s (s.reportAcceptance n rising) := by
  unfold State.reportAcceptance
  cases (s.src n).sense with
  | levelHigh => exact levelChange s n rising
  | levelLow => exact levelChange s n (!rising)
  | rising => exact ite (edgeEvent s n) (refl s)
  | falling => exact ite (refl s) (edgeEvent s n)
  | anyEdge => exact edgeEvent s n

/-! ### Lines and soft requests -/

theorem setLine (s : State) (l : LineId) (x : Line) : SameSide s (s.setLine l x) := {}

theorem acceptLine (s : State) (l : LineId) : SameSide s (s.acceptLine l) :=
  ite (setLine s l _) ((setLine s l _).trans (reportAcceptance _ _ _))

theorem intervalExpiry (s : State) (l : LineId) : SameSide s (s.intervalExpiry l) := ite (acceptLine s l) (refl s)

theorem observe (s : State) (l : LineId) (level : Bool) : SameSide s (s.observe l level) :=
  ite (setLine s l _) (ite ((setLine s l _).trans (acceptLine _ l))
    (ite ((setLine s l _).trans (setLine _ l _)) ((setLine s l _).trans (setLine _ l _))))

theorem setSoftLevel (s : State) (k : SoftId) (b : Bool) : SameSide s (s.setSoftLevel k b) := {}

theorem raiseSoft (s : State) (k : SoftId) : SameSide s (s.raiseSoft k) :=
  ite (ite (refl s) ((setSoftLevel s k true).trans (levelChange _ _ _))) (edgeEvent s _)

theorem lowerSoft (s : State) (k : SoftId) : SameSide s (s.lowerSoft k) :=
  ite (ite ((setSoftLevel s k false).trans (levelChange _ _ _)) (refl s)) (refl s)

theorem softRequest (s : State) (r : Request) (v : Word) (take : SoftId → State)
    (h : ∀ k, SameSide s (take k)) : SameSide s (s.softRequest r v take) := by
  unfold State.softRequest
  split
  · exact refuse s _ _ _
  · split
    · exact h _
    · exact refuse s _ _ _

/-! ### Source Table -/

theorem setSrc (s : State) (n : SourceId) (e : Source) : SameSide s (s.setSrc n e) := {}

theorem maskSet (s : State) (n : SourceId) : SameSide s (s.maskSet n) := ite {} {}

theorem maskClear (s : State) (n : SourceId) : SameSide s (s.maskClear n) :=
  ite ((setSrc s n _).trans (reevaluate _ n false)) (setSrc s n _)

theorem maskSetAll (s : State) (ns : List SourceId) : SameSide s (s.maskSetAll ns) := foldl maskSet ns s

theorem setFreeCount (s : State) (k : Nat) : SameSide s (s.setFreeCount k) := {}

theorem maskClearAll (s : State) (ns : List SourceId) : SameSide s (s.maskClearAll ns) :=
  ((foldl (fun t n => setSrc t n _) ns s).trans (foldl (fun t n => reevaluate t n false) _ _)).trans
    (setFreeCount _ _)

theorem writeSrcIndex (s : State) (v : Word) : SameSide s (s.writeSrcIndex v) := by
  unfold State.writeSrcIndex
  cases sourceOf v.toNat with
  | none => exact refuse s _ _ _
  | some n => exact setRegs s _

theorem recomputeIfChanged (s : State) (n : SourceId) (before : Source) :
    SameSide s (s.recomputeIfChanged n before) := by
  unfold State.recomputeIfChanged
  split
  · exact ite (setLine s _ _) (refl s)
  · exact refl s

theorem takeConfig (s : State) (n : SourceId) (w : ConfigWrite) (sense : Sense) :
    SameSide s (s.takeConfig n w sense) := by
  have hrecomputed := (setSrc s n (w.apply sense (s.src n))).trans (recomputeIfChanged _ n (s.src n))
  exact ite (hrecomputed.trans (reevaluate _ n false)) hrecomputed

theorem writeSrcConfig (s : State) (v : Word) : SameSide s (s.writeSrcConfig v) := by
  refine ite (refuse s _ _ _) ?_
  split
  · exact refuse s _ _ _
  · exact takeConfig s _ _ _

theorem countN (s : State) (k : Nat) (c : Counter) : SameSide s (s.countN k c) := {}

theorem setSources (s : State) (v : Vector Source 40) : SameSide s (s.setSources v) := {}

theorem setQueue (s : State) (q : EventQueue) : SameSide s (s.setQueue q) := {}

theorem tableClear (s : State) : SameSide s s.tableClear :=
  ite (refuse s _ _ _) (((countN s _ _).trans (setSources _ _)).trans (setQueue _ _))

theorem unmatchedCompletion (s : State) (vector : Byte) (oldest : Bool) (reason : UnmatchedReason) :
    SameSide s (s.unmatchedCompletion vector oldest reason) := setRegs s _

theorem flushPending (s : State) (n : SourceId) : SameSide s (s.flushPending n) := ite {} {}

theorem holdoffExpiry (s : State) (n : SourceId) : SameSide s (s.holdoffExpiry n) := by
  have hstop : SameSide s (s.setSrc n { s.src n with holdoff := none }) := setSrc s n _
  exact ite (ite ((hstop.trans (setSrc _ n _)).trans (reevaluate _ n false)) (hstop.trans (flushPending _ n)))
    (refl s)

theorem releaseSource (s : State) (n : SourceId) : SameSide s (s.releaseSource n) :=
  ite {} ((setSrc s n _).trans (reevaluate _ n false))

theorem abandonSource (s : State) (n : SourceId) : SameSide s (s.abandonSource n) :=
  (setSrc s n _).trans (reevaluate _ n true)

theorem requeueSource (s : State) (n : SourceId) (count : Byte) (overrun : Bool) :
    SameSide s (s.requeueSource n count overrun) :=
  ite (ite {} {}) (ite {} (ite {} {}))

end SameSide

/-! ### The Delivered List -/

namespace SameLink

theorem setDelivered (s : State) (ns : List SourceId) : SameLink s (s.setDelivered ns) := {}

/-- FORCE_IDLE may take a source off the Delivered List (R34). -/
theorem forceIdle (s : State) (op : Byte) :
    SameLink s (s.forceIdle op) ∧ (s.forceIdle op).notes = s.notes ∧ (s.forceIdle op).delivered ⊆ s.delivered := by
  have hkept {t : State} (h : SameSide s t) :
      SameLink s t ∧ t.notes = s.notes ∧ t.delivered ⊆ s.delivered :=
    ⟨h.toSameLink, h.notes, by rw [h.delivered]; exact List.Subset.refl _⟩
  unfold State.forceIdle
  cases sourceOf op.toNat with
  | none => exact hkept (SameSide.refuse s _ _ _)
  | some n =>
    change SameLink s (s.forceIdleSource n op) ∧ (s.forceIdleSource n op).notes = s.notes ∧
      (s.forceIdleSource n op).delivered ⊆ s.delivered
    unfold State.forceIdleSource
    cases (s.src n).state with
    | idle => exact hkept (SameSide.refuse s _ _ _)
    | queued => exact hkept (SameSide.refuse s _ _ _)
    | sent => exact hkept (SameSide.refuse s _ _ _)
    | delivered =>
      have hoff := (SameSide.setSrc (s.setDelivered (s.delivered.filter fun m => m ≠ n)) n
        { s.src n with state := .idle }).trans (SameSide.reevaluate _ n false)
      refine ⟨(setDelivered s _).trans hoff.toSameLink, hoff.notes, ?_⟩
      rw [hoff.delivered]
      exact List.filter_subset_self _
    | holdoff => exact hkept ((SameSide.setSrc s n _).trans (SameSide.reevaluate _ n false))

theorem takeCompletion (s : State) (oldest : Bool) (vector : Byte) :
    SameLink s (s.takeCompletion oldest vector) ∧ (s.takeCompletion oldest vector).notes = s.notes := by
  have hunmatched (reason : UnmatchedReason) : SameLink s (s.unmatchedCompletion vector oldest reason) ∧
      (s.unmatchedCompletion vector oldest reason).notes = s.notes :=
    have h := SameSide.unmatchedCompletion s vector oldest reason
    ⟨h.toSameLink, h.notes⟩
  have hreleased {ns : List SourceId} {t : State} (h : SameSide (s.setDelivered ns) t) :
      SameLink s t ∧ t.notes = s.notes := ⟨(setDelivered s ns).trans h.toSameLink, h.notes⟩
  unfold State.takeCompletion
  dsimp only
  split
  next =>
    split
    next => exact hunmatched _
    next =>
      cases s.delivered with
      | nil => exact hunmatched _
      | cons n rest => exact hreleased (SameSide.releaseSource _ n)
  next =>
    split
    next => exact hunmatched _
    next => exact hreleased (SameSide.foldl SameSide.releaseSource _ _)

/-- An acknowledged source of class LEVEL goes on the Delivered List (R52); the Note Unit stands. -/
theorem ackSource (s : State) (n : SourceId) : SameLink s (s.ackSource n) ∧ (s.ackSource n).notes = s.notes := by
  unfold State.ackSource
  split
  next => exact ⟨{}, rfl⟩
  next =>
    split
    next => exact ⟨{}, rfl⟩
    next => exact ⟨(SameSide.flushPending s n).toSameLink, (SameSide.flushPending s n).notes⟩

theorem ackRecord (s : State) (r : FrameRecord) : SameLink s (s.ackRecord r) := by
  unfold State.ackRecord
  cases r.body with
  | event m => exact (ackSource s m.source).1
  | note k _ => exact {}
  | reply _ => exact {}

theorem disposeRecord (s : State) (r : FrameRecord) : SameLink s (s.disposeRecord r) := by
  unfold State.disposeRecord
  cases r.body with
  | event m => exact (SameSide.requeueSource s m.source m.count m.overrun).toSameLink
  | note k n => exact {}
  | reply _ => exact {}

theorem disposeRecords (s : State) (rs : List FrameRecord) : SameLink s (s.disposeRecords rs) := by
  induction rs with
  | nil => exact refl s
  | cons r rs ih => exact ih.trans (disposeRecord _ r)

end SameLink

end Sys2Proof.Machine
end

section
/-! PROOFS. The law of the note slots (R158, R161, R164), read slot by slot over the notes in flight; and the bridge
from the laws of Safety.lean to the laws read source by source and slot by slot. -/

namespace Sys2Proof.Machine

/-- A list holds once each thing that has a property, and nothing else. -/
theorem nodup_and_mem_iff {α : Type} [DecidableEq α] (l : List α) (p : α → Prop) [DecidablePred p] :
    (l.Nodup ∧ ∀ a, a ∈ l ↔ p a) ↔ ∀ a, l.count a = if p a then 1 else 0 := by
  constructor
  · rintro ⟨hnodup, hmem⟩ a
    split
    next ha => exact List.count_eq_one_of_mem hnodup ((hmem a).2 ha)
    next ha => exact List.count_eq_zero_of_not_mem fun h => ha ((hmem a).1 h)
  · intro h
    refine ⟨List.nodup_iff_count_le_one.2 fun a => ?_, fun a => ?_⟩
    · rw [h a]
      split <;> decide
    · rw [← List.count_pos_iff, h a]
      split <;> simp_all

/-! ### The laws of sources, entries and messages -/

/-- The messages of the EVENT records among some. -/
def messagesOf (rs : Multiset FrameRecord) : Multiset Message := rs.filterMap fun r => r.body.message

theorem sentSources_eq (s : State) : s.sentSources = s.flyingMessages.map (·.source) := by
  rw [State.sentSources, State.flyingMessages, List.map_filterMap]
  refine congrArg (List.filterMap · _) (funext fun r => ?_)
  cases r.body <;> rfl

theorem card_ofSource (n : SourceId) (ms : List Message) :
    (ofSource n ms).card = (ms.map (·.source)).count n := by
  rw [ofSource, Multiset.filter_coe, Multiset.coe_card, ← List.countP_eq_length_filter, List.count, List.countP_map]
  exact List.countP_congr fun m _ => by simp

theorem entryLaw_iff (s : State) : s.EntryLaw ↔ ∀ n, (s.src n).EntryOk n :=
  forall_congr' fun _ =>
    ⟨fun ⟨hdisabled, hmasked, hvector, hsoft, hdelivered, hholdoff, hpending, hovr⟩ =>
      ⟨hdisabled, hmasked, hvector, hsoft, hdelivered, hholdoff, hpending, hovr⟩,
    fun h => ⟨h.disabled, h.masked, h.vector, h.soft, h.deliveredLevel, h.holdoffHold, h.pending, h.pendOvr⟩⟩

theorem placeLaw_iff (s : State) : s.PlaceLaw ↔ ∀ n,
    s.queuedSources.count n = (if (s.src n).state = .queued then 1 else 0) ∧
    s.sentSources.count n = (if (s.src n).state = .sent then 1 else 0) ∧
    s.delivered.count n = (if (s.src n).state = .delivered then 1 else 0) ∧
    ((s.src n).holdoff.isSome ↔ (s.src n).state = .holdoff) := by
  simp only [forall_and, ← nodup_and_mem_iff]
  constructor
  · rintro ⟨hq, hs, hd, h⟩
    obtain ⟨hqueued, hsent, hdelivered, htimer⟩ : _ ∧ _ ∧ _ ∧ _ := by simpa only [forall_and] using h
    exact ⟨⟨hq, hqueued⟩, ⟨hs, hsent⟩, ⟨hd, hdelivered⟩, htimer⟩
  · rintro ⟨⟨hq, hqueued⟩, ⟨hs, hsent⟩, ⟨hd, hdelivered⟩, htimer⟩
    exact ⟨hq, hs, hd, fun n => ⟨hqueued n, hsent n, hdelivered n, htimer n⟩⟩

/-- The laws on places, entries and messages are the law of the Source Table. -/
theorem tableLaw_iff (s : State) :
    s.TableLaw (messagesOf s.window.records) s.delivered ↔ s.PlaceLaw ∧ s.EntryLaw ∧ s.MessageLaw := by
  have hqueue (n : SourceId) : (ofSource n s.queue.contents).card = s.queuedSources.count n :=
    card_ofSource n s.queue.messages
  have hsent (n : SourceId) : (ofSource n (messagesOf s.window.records)).card = s.sentSources.count n := by
    rw [sentSources_eq]
    exact card_ofSource n s.flyingMessages
  rw [placeLaw_iff, entryLaw_iff]
  constructor
  · intro h
    refine ⟨fun n => ?_, fun n => (h.at_source n).toEntryOk, h.classed, fun m hm => ?_, fun m hm hl => ?_,
      fun m hm => ?_⟩
    · have hn := h.at_source n
      exact ⟨(hqueue n).symm.trans hn.queuedOnce, (hsent n).symm.trans hn.sentOnce,
        (Multiset.coe_count n s.delivered).symm.trans hn.heldOnce, hn.timer⟩
    · exact ((h.at_source m.source).queuedCarried m (mem_ofSource.2 ⟨hm, rfl⟩)).1
    · exact ((h.at_source m.source).queuedCarried m (mem_ofSource.2 ⟨hm, rfl⟩)).2 hl
    · exact (h.at_source m.source).sentCarried m (mem_ofSource.2 ⟨hm, rfl⟩)
  · rintro ⟨hplace, hentry, hclassed, hqueued, hlevel, hflying⟩
    refine .mk hclassed fun n => ?_
    obtain ⟨hq, hs, hd, ht⟩ := hplace n
    refine { hentry n with
      queuedOnce := (hqueue n).trans hq
      sentOnce := (hsent n).trans hs
      heldOnce := (Multiset.coe_count n s.delivered).trans hd
      timer := ht
      queuedCarried := fun m hm => ?_
      sentCarried := fun m hm => ?_ }
    · obtain ⟨hmem, rfl⟩ := mem_ofSource.1 hm
      exact ⟨hqueued m hmem, hlevel m hmem⟩
    · obtain ⟨hmem, rfl⟩ := mem_ofSource.1 hm
      exact hflying m hmem

/-! ### One slot -/

/-- The notes of the NOTE records among some, each with its slot. -/
def notesOf (rs : Multiset FrameRecord) : Multiset (SlotId × Note) := rs.filterMap fun r => r.body.slotNote

/-- The notes of a slot among others. -/
def ofSlot (k : SlotId) (ps : Multiset (SlotId × Note)) : Multiset (SlotId × Note) := ps.filter fun p => p.1 = k

theorem ofSlot_cons_self (k : SlotId) (n : Note) (ps : Multiset (SlotId × Note)) :
    ofSlot k ((k, n) ::ₘ ps) = (k, n) ::ₘ ofSlot k ps := Multiset.filter_cons_of_pos ps rfl

theorem ofSlot_cons_ne {j k : SlotId} (h : j ≠ k) (n : Note) (ps : Multiset (SlotId × Note)) :
    ofSlot j ((k, n) ::ₘ ps) = ofSlot j ps := Multiset.filter_cons_of_neg ps h.symm

/-- The notes in flight of a slot. -/
def Slot.flying (k : SlotId) : Slot → Multiset (SlotId × Note)
  | .inFlight n => {(k, n)}
  | .waiting _ | .free => 0

/-- A slot with its places in the waiting order and its notes in flight (R158, R161). -/
structure Slot.Lawful (x : Slot) (k : SlotId) (places : Nat) (flying : Multiset (SlotId × Note)) : Prop where
  waitsOnce : places = if x.isWaiting = true then 1 else 0
  fliesOnce : flying = x.flying k
  noteFits : ∀ n ∈ x.note, 1 ≤ n.data.length ∧ n.data.length ≤ 8

/-- The law of the slots, with the notes P in flight. -/
def NoteUnit.SlotsLaw (u : NoteUnit) (P : Multiset (SlotId × Note)) : Prop :=
  ∀ k : SlotId, (u.slots[k.val]).Lawful k (u.order.count k) (ofSlot k P)

theorem flyingSlots_eq (s : State) :
    s.flyingSlots = (s.window.records.filterMap fun r => r.body.slotNote).map Prod.fst := by
  rw [State.flyingSlots, List.map_filterMap]
  refine congrArg (List.filterMap · _) (funext fun r => ?_)
  cases r.body <;> rfl

theorem card_ofSlot (k : SlotId) (ps : List (SlotId × Note)) :
    (ofSlot k ps).card = (ps.map Prod.fst).count k := by
  rw [ofSlot, Multiset.filter_coe, Multiset.coe_card, ← List.countP_eq_length_filter, List.count, List.countP_map]
  exact List.countP_congr fun p _ => by simp

theorem slot_eq_of_mem_flying {x : Slot} {k : SlotId} {p : SlotId × Note} (h : p ∈ x.flying k) :
    p.1 = k ∧ x = .inFlight p.2 := by
  cases x with
  | free => exact absurd h (Multiset.notMem_zero p)
  | waiting n => exact absurd h (Multiset.notMem_zero p)
  | inFlight n =>
    obtain rfl := Multiset.mem_singleton.1 h
    exact ⟨rfl, rfl⟩

theorem card_flying (x : Slot) (k : SlotId) : (x.flying k).card = if x.isInFlight = true then 1 else 0 := by
  cases x <;> rfl

/-- The notes in flight of a slot are its own, where their number and their contents are right. -/
theorem eq_flying {x : Slot} {k : SlotId} {ps : Multiset (SlotId × Note)}
    (hcard : ps.card = if x.isInFlight = true then 1 else 0) (hps : ∀ p ∈ ps, p.1 = k ∧ x = .inFlight p.2) :
    ps = x.flying k := by
  cases x with
  | free => exact Multiset.card_eq_zero.1 hcard
  | waiting n => exact Multiset.card_eq_zero.1 hcard
  | inFlight n =>
    obtain ⟨p, rfl⟩ := Multiset.card_eq_one.1 hcard
    obtain ⟨rfl, hn⟩ := hps p (Multiset.mem_singleton_self p)
    cases hn
    rfl

/-- The law of Safety.lean on the slots is the law read slot by slot. -/
theorem slotLaw_iff (s : State) : s.SlotLaw ↔ s.notes.SlotsLaw (notesOf s.window.records) := by
  have hcount (k : SlotId) : (ofSlot k (notesOf s.window.records)).card = s.flyingSlots.count k := by
    rw [flyingSlots_eq]
    exact card_ofSlot k _
  have hflies := nodup_and_mem_iff s.flyingSlots fun k => (s.notes.slots[k.val]).isInFlight = true
  have hwaits := nodup_and_mem_iff s.notes.order fun k => (s.notes.slots[k.val]).isWaiting = true
  constructor
  · rintro ⟨horder, hflying, hwaiting, hinflight, hnotes, hfits⟩ k
    refine ⟨hwaits.1 ⟨horder, hwaiting⟩ k, eq_flying ?_ fun p hp => ?_, hfits k⟩
    · rw [hcount]
      exact hflies.1 ⟨hflying, hinflight⟩ k
    · obtain ⟨hmem, rfl⟩ := Multiset.mem_filter.1 hp
      obtain ⟨r, hr, hrp⟩ := List.mem_filterMap.1 hmem
      exact ⟨rfl, hnotes r hr p hrp⟩
  · intro h
    obtain ⟨horder, hwaiting⟩ := hwaits.2 fun k => (h k).waitsOnce
    obtain ⟨hflying, hinflight⟩ := hflies.2 fun k => by
      rw [← hcount, (h k).fliesOnce, card_flying]
    refine ⟨horder, hflying, hwaiting, hinflight, fun r hr p hp => ?_, fun k => (h k).noteFits⟩
    have hmem : p ∈ ofSlot p.1 (notesOf s.window.records) :=
      Multiset.mem_filter.2 ⟨List.mem_filterMap.2 ⟨r, hr, hp⟩, rfl⟩
    rw [(h p.1).fliesOnce] at hmem
    exact (slot_eq_of_mem_flying hmem).2

/-! ### What the operations of the Note Unit make of the slots -/

namespace NoteUnit

variable {u : NoteUnit} {P P' : Multiset (SlotId × Note)}

/-- One slot changed, with a waiting order and notes in flight that differ in that slot alone. -/
theorem SlotsLaw.replace (h : u.SlotsLaw P) (k : SlotId) (x : Slot) (order : List SlotId)
    (horder : ∀ j ≠ k, order.count j = u.order.count j) (hP : ∀ j ≠ k, ofSlot j P' = ofSlot j P)
    (hk : x.Lawful k (order.count k) (ofSlot k P')) :
    SlotsLaw { u with slots := u.slots.set k.val x, order := order } P' := by
  intro j
  rcases eq_or_ne j k with rfl | hj
  · simpa using hk
  · have hne : k.val ≠ j.val := fun h => hj (Fin.ext h.symm)
    simpa [Vector.getElem_set, hne, horder j hj, hP j hj] using h j

theorem freeSlot_spec {k : SlotId} (h : u.freeSlot = some k) : u.slots[k.val] = .free := by
  simpa using List.find?_some h

/-- A note put into a free slot (R160). -/
theorem SlotsLaw.send (h : u.SlotsLaw P) {k : SlotId} (hk : u.slots[k.val] = .free) (n : Note)
    (hn : 1 ≤ n.data.length ∧ n.data.length ≤ 8) :
    SlotsLaw { u with slots := u.slots.set k.val (.waiting n), order := u.order ++ [k] } P := by
  obtain ⟨hwaits, hflies, -⟩ := hk ▸ h k
  refine h.replace k _ _ (fun j hj => ?_) (fun _ _ => rfl) ⟨?_, hflies, by simpa [Slot.note] using hn⟩
  · simp [hj.symm]
  · simpa [Slot.isWaiting] using hwaits

/-- The oldest waiting note granted (R161). -/
theorem SlotsLaw.grant (h : u.SlotsLaw P) {k : SlotId} {n : Note} {rest : List SlotId}
    (hk : u.slots[k.val] = .waiting n) (horder : u.order = k :: rest) :
    SlotsLaw { u with slots := u.slots.set k.val (.inFlight n), order := rest } ((k, n) ::ₘ P) := by
  obtain ⟨hwaits, hflies, hfits⟩ := hk ▸ h k
  refine h.replace k _ _ (fun j hj => ?_) (fun j hj => ofSlot_cons_ne hj n P) ⟨?_, ?_, hfits⟩
  · rw [horder, List.count_cons_of_ne hj.symm]
  · simpa [horder, Slot.isWaiting] using hwaits
  · rw [ofSlot_cons_self, hflies]
    rfl

/-- What a slot whose note is in flight holds. -/
theorem SlotsLaw.inFlight {k : SlotId} {n : Note} (h : u.SlotsLaw ((k, n) ::ₘ P)) :
    u.slots[k.val] = .inFlight n ∧ ofSlot k P = 0 ∧ u.order.count k = 0 := by
  obtain ⟨hwaits, hflies, -⟩ := h k
  rw [ofSlot_cons_self] at hflies
  have hslot := (slot_eq_of_mem_flying (hflies ▸ Multiset.mem_cons_self (k, n) _)).2
  rw [hslot] at hwaits hflies
  exact ⟨hslot, (Multiset.cons_inj_right _).1 hflies, hwaits⟩

/-- The frame of a note acknowledged (R162). -/
theorem SlotsLaw.ack {k : SlotId} {n : Note} (h : u.SlotsLaw ((k, n) ::ₘ P)) :
    SlotsLaw { u with slots := u.slots.set k.val .free } P := by
  obtain ⟨-, hnone, hwaits⟩ := h.inFlight
  exact h.replace k .free u.order (fun _ _ => rfl) (fun j hj => (ofSlot_cons_ne hj n P).symm)
    ⟨hwaits, hnone, nofun⟩

/-- A note in flight back at the front of the waiting order (R164). -/
theorem SlotsLaw.dispose {k : SlotId} {n : Note} (h : u.SlotsLaw ((k, n) ::ₘ P)) :
    SlotsLaw { u with slots := u.slots.set k.val (.waiting n), order := k :: u.order } P := by
  obtain ⟨hslot, hnone, hwaits⟩ := h.inFlight
  refine h.replace k _ _ (fun j hj => List.count_cons_of_ne hj.symm)
    (fun j hj => (ofSlot_cons_ne hj n P).symm) ⟨?_, hnone, ?_⟩
  · rw [List.count_cons_self, hwaits]
    rfl
  · have hfits := (h k).noteFits
    rwa [hslot] at hfits

/-- NOTE_FLUSH (R163). -/
theorem SlotsLaw.flush (h : u.SlotsLaw P) :
    SlotsLaw { u with slots := u.slots.map fun x => if x.isWaiting then .free else x, order := [] } P := by
  intro k
  obtain ⟨-, hflies, hfits⟩ := h k
  simp only [Vector.getElem_map]
  generalize u.slots[k.val] = x at hflies hfits
  cases x with
  | free => exact ⟨rfl, hflies, nofun⟩
  | waiting n => exact ⟨rfl, hflies, nofun⟩
  | inFlight n => exact ⟨rfl, hflies, hfits⟩

end NoteUnit

end Sys2Proof.Machine
end

section
/-! PROOFS. What the queue, the slots and the Window hold, through acknowledgments, Completions and session end:
each record that leaves the Window takes its source or its slot along. -/

namespace Sys2Proof.Machine

theorem messagesOf_cons (r : FrameRecord) (R : Multiset FrameRecord) :
    messagesOf (r ::ₘ R) = match r.body with
      | .event m => m ::ₘ messagesOf R
      | .note _ _ | .reply _ => messagesOf R := by
  unfold messagesOf
  cases hb : r.body with
  | event m => exact Multiset.filterMap_cons_some _ _ _ (by rw [hb]; rfl)
  | note k n => exact Multiset.filterMap_cons_none _ _ (by rw [hb]; rfl)
  | reply p => exact Multiset.filterMap_cons_none _ _ (by rw [hb]; rfl)

theorem notesOf_cons (r : FrameRecord) (R : Multiset FrameRecord) :
    notesOf (r ::ₘ R) = match r.body with
      | .note k n => (k, n) ::ₘ notesOf R
      | .event _ | .reply _ => notesOf R := by
  unfold notesOf
  cases hb : r.body with
  | event m => exact Multiset.filterMap_cons_none _ _ (by rw [hb]; rfl)
  | note k n => exact Multiset.filterMap_cons_some _ _ _ (by rw [hb]; rfl)
  | reply p => exact Multiset.filterMap_cons_none _ _ (by rw [hb]; rfl)

namespace State

/-- The law of the Source Table and of the slots, with the records R in flight and the sources D delivered. -/
structure Carrying (s : State) (R : Multiset FrameRecord) (D : Multiset SourceId) : Prop where
  table : s.TableLaw (messagesOf R) D
  slots : s.notes.SlotsLaw (notesOf R)

variable {s : State} {R : Multiset FrameRecord} {D : Multiset SourceId}

/-! ### Acknowledgment (R128) -/

theorem Carrying.ackRecord {r : FrameRecord} (h : s.Carrying (r ::ₘ R) s.delivered) :
    (s.ackRecord r).Carrying R (s.ackRecord r).delivered := by
  obtain ⟨htable, hslots⟩ := h
  rw [messagesOf_cons] at htable
  rw [notesOf_cons] at hslots
  unfold State.ackRecord
  cases hb : r.body with
  | event m =>
    rw [hb] at htable hslots
    exact ⟨htable.ackSource, (SameLink.ackSource s m.source).2 ▸ hslots⟩
  | note k n =>
    rw [hb] at htable hslots
    exact ⟨htable, hslots.ack⟩
  | reply p =>
    rw [hb] at htable hslots
    exact ⟨htable, hslots⟩

theorem Carrying.ackRecords (rs : List FrameRecord) (h : s.Carrying (rs + R) s.delivered) :
    (rs.foldl State.ackRecord s).Carrying R (rs.foldl State.ackRecord s).delivered := by
  induction rs generalizing s with
  | nil => simpa using h
  | cons r rs ih => exact ih (Carrying.ackRecord (by simpa [← Multiset.cons_coe] using h))

/-- The oldest records acknowledged: those that remain are in flight. -/
theorem Carrying.removeAcked (h : s.Carrying s.window.records s.delivered) (k : Nat) :
    (s.removeAcked k).Carrying (s.window.records.drop k : List FrameRecord) (s.removeAcked k).delivered := by
  refine Carrying.ackRecords (s := s.setWindow { s.window with records := s.window.records.drop k }) _ ?_
  rw [Multiset.coe_add, List.take_append_drop]
  exact ⟨h.table, h.slots⟩

/-- Acknowledged records leave the Window; the rest of the link stands. -/
theorem removeAcked_sameLink (s : State) (k : Nat) :
    SameLink (s.setWindow { s.window with records := s.window.records.drop k }) (s.removeAcked k) :=
  SameLink.foldl SameLink.ackRecord _ _

/-! ### Session end (R117, R135) -/

theorem Carrying.disposeRecord {r : FrameRecord} (h : s.Carrying (r ::ₘ R) D) :
    (s.disposeRecord r).Carrying R D := by
  obtain ⟨htable, hslots⟩ := h
  rw [messagesOf_cons] at htable
  rw [notesOf_cons] at hslots
  unfold State.disposeRecord
  cases hb : r.body with
  | event m =>
    rw [hb] at htable hslots
    exact ⟨htable.requeueSource, (SameSide.requeueSource s m.source m.count m.overrun).notes ▸ hslots⟩
  | note k n =>
    rw [hb] at htable hslots
    exact ⟨htable, hslots.dispose⟩
  | reply p =>
    rw [hb] at htable hslots
    exact ⟨htable, hslots⟩

theorem Carrying.disposeRecords (rs : List FrameRecord) (h : s.Carrying (rs + R) D) :
    (s.disposeRecords rs).Carrying R D := by
  induction rs generalizing R with
  | nil =>
    change s.Carrying R D
    simpa using h
  | cons r rs ih =>
    refine (ih (R := r ::ₘ R) ?_).disposeRecord
    rwa [Multiset.add_cons, ← Multiset.cons_add]

/-- Session end as far as the records of the Window and the Delivered List go. -/
def disbanded (s : State) : State :=
  s.delivered.foldl State.abandonSource (((s.setWindow
    { s.window with records := [], retry := 0, timer := none }).disposeRecords s.window.records).setDelivered [])

/-- The rest of session end: the link's own blocks at rest, and LINK_DOWN. -/
def closed (t : State) : State :=
  let t := t.setReplies []
  let t := t.setArbiter { t.arbiter with
    ackDue := none, nakDue := none, resend := none, finalHelloDue := false }
  let t := t.setReceiver { t.receiver with assembly := none, badRun := 0, nakSent := false }
  let t := t.setSession { t.session with agreed := 0 }
  t.raiseFlag .linkDown

theorem closed_eq (t : State) :
    t.closed = { t with
      replies := []
      arbiter := { t.arbiter with ackDue := none, nakDue := none, resend := none, finalHelloDue := false }
      receiver := { t.receiver with assembly := none, badRun := 0, nakSent := false }
      session := { t.session with agreed := 0 }
      regs := { t.regs with cause := t.regs.cause ||| 0x02#8 } } := rfl

theorem endSession_eq (s : State) : s.endSession = s.disbanded.closed := rfl

theorem disbanded_sameLink (s : State) :
    SameLink (s.setWindow { s.window with records := [], retry := 0, timer := none }) s.disbanded :=
  ((SameLink.disposeRecords _ _).trans (SameLink.setDelivered _ _)).trans
    (SameSide.foldl SameSide.abandonSource _ _).toSameLink

theorem disbanded_delivered (s : State) : s.disbanded.delivered = [] :=
  (SameSide.foldl SameSide.abandonSource _ _).delivered

theorem disbanded_notes (s : State) :
    s.disbanded.notes = ((s.setWindow { s.window with records := [], retry := 0, timer := none }).disposeRecords
      s.window.records).notes :=
  (SameSide.foldl SameSide.abandonSource _ _).notes

/-- The link of a session that has ended (R117), but for the link state that follows. -/
structure SessionOver (s t : State) : Prop where
  resetting : t.resetting = s.resetting
  bus : t.bus = s.bus
  tx : t.tx = s.tx
  linkCfg : t.regs.linkCfg = s.regs.linkCfg
  session : t.session = { s.session with agreed := 0 }
  window : t.window = { s.window with records := [], retry := 0, timer := none }
  receiver : t.receiver = { s.receiver with assembly := none, badRun := 0, nakSent := false }
  arbiter : t.arbiter = { s.arbiter with ackDue := none, nakDue := none, resend := none, finalHelloDue := false }
  replies : t.replies = []
  delivered : t.delivered = []

theorem endSession_over (s : State) : SessionOver s s.endSession := by
  have hlink := s.disbanded_sameLink
  have hdelivered := s.disbanded_delivered
  rw [endSession_eq, closed_eq]
  generalize s.disbanded = t at *
  exact
    { resetting := hlink.resetting
      bus := hlink.bus
      tx := hlink.tx
      linkCfg := hlink.linkCfg
      session := congrArg (fun x : Session => { x with agreed := 0 }) hlink.session
      window := hlink.window
      receiver := congrArg (fun x : Receiver => { x with assembly := none, badRun := 0, nakSent := false })
        hlink.receiver
      arbiter := congrArg (fun x : Arbiter =>
        { x with ackDue := none, nakDue := none, resend := none, finalHelloDue := false }) hlink.arbiter
      replies := rfl
      delivered := hdelivered }

/-- Session end leaves nothing in flight and nothing delivered. -/
theorem Carrying.endSession (h : s.Carrying s.window.records s.delivered) : s.endSession.Carrying 0 0 := by
  have hdisposed : ((s.setWindow { s.window with records := [], retry := 0, timer := none }).disposeRecords
      s.window.records).Carrying 0 s.delivered :=
    Carrying.disposeRecords _ (by rw [add_zero]; exact ⟨h.table, h.slots⟩)
  have hdisbanded : s.disbanded.Carrying 0 0 := by
    constructor
    · exact TableLaw.abandonAll s.delivered (by rw [add_zero]; exact hdisposed.table)
    · rw [disbanded_notes]
      exact hdisposed.slots
  rw [endSession_eq, closed_eq]
  generalize s.disbanded = t at hdisbanded
  exact ⟨hdisbanded.table.congr, hdisbanded.slots⟩

/-! ### Completions (R148 to R151) -/

theorem TableLaw.takeCompletion {F : Multiset Message} (h : s.TableLaw F s.delivered) (oldest : Bool)
    (vector : Byte) : (s.takeCompletion oldest vector).TableLaw F (s.takeCompletion oldest vector).delivered := by
  have hunmatched (reason : UnmatchedReason) : (s.unmatchedCompletion vector oldest reason).TableLaw F
      (s.unmatchedCompletion vector oldest reason).delivered := by
    rw [unmatchedCompletion_eq]
    exact h.congr
  unfold State.takeCompletion
  dsimp only
  split
  next =>
    split
    next => exact hunmatched _
    next =>
      cases hd : s.delivered with
      | nil => exact hunmatched _
      | cons n rest =>
        rw [hd, ← Multiset.cons_coe] at h
        have hlist := (SameSide.releaseSource (s.setDelivered rest) n).delivered
        dsimp only
        rw [hlist]
        exact TableLaw.releaseSource (s := s.setDelivered rest) h
  next =>
    split
    next => exact hunmatched _
    next =>
      have hlist := (SameSide.foldl SameSide.releaseSource (s.delivered.filter fun n => (s.src n).vector = vector)
        (s.setDelivered (s.delivered.filter fun n => (s.src n).vector ≠ vector))).delivered
      have hsplit : (s.delivered : Multiset SourceId) =
          ↑(s.delivered.filter fun n => (s.src n).vector = vector) +
            ↑(s.delivered.filter fun n => (s.src n).vector ≠ vector) := by
        have := Multiset.filter_add_not (fun n => (s.src n).vector = vector) (s.delivered : Multiset SourceId)
        simpa [Multiset.filter_coe] using this.symm
      rw [hlist]
      exact TableLaw.releaseAll _ (hsplit ▸ h)

end State

end Sys2Proof.Machine
end

section
/-! PROOFS. `Keeps` says that an operation keeps every law of the device: the laws of the link each by itself or with
those it needs, and what the queue, the slots and the Window hold under all of them. The operations of the Source
Table and of the Note Unit keep them because the link stands. -/

namespace Sys2Proof.Machine

namespace State

/-- The laws on sources, entries, messages, slots and frames, read source by source and slot by slot. -/
structure Contents (s : State) : Prop extends s.Carrying s.window.records s.delivered where
  frame : s.FrameLaw

theorem Inv.contents {s : State} (h : s.Inv) : s.Contents where
  table := (tableLaw_iff s).2 ⟨h.place, h.entry, h.message⟩
  slots := (slotLaw_iff s).1 h.slot
  frame := h.frame

variable {s t : State}

/-- The law of sessions speaks of the Session Controller, the greeting and AUTO alone. -/
theorem SessionLaw.congr (h : s.SessionLaw) (hs : t.session = s.session := by rfl)
    (hi : t.arbiter.greetInterval = s.arbiter.greetInterval := by rfl)
    (hd : t.arbiter.helloDue = s.arbiter.helloDue := by rfl)
    (hc : t.regs.linkCfg = s.regs.linkCfg := by rfl) : t.SessionLaw := by
  rw [SessionLaw, hs, hi, hd, hc]
  exact h

/-- Outside a reset no access waits, and nothing else is asked. -/
theorem ResetLaw.running (h : s.ResetLaw) (hr : s.resetting = none) (ht : t.resetting = none := by assumption)
    (hb : t.bus.waiting = s.bus.waiting := by rfl) : t.ResetLaw :=
  ⟨fun _ => hb.trans (h.1 hr), fun cause hc => by simp [ht] at hc⟩

end State

/-- From s to t every law of the device is kept. -/
structure Keeps (s t : State) : Prop extends KeepsLaws s t where
  session : s.CfgLaw → s.SessionLaw → t.SessionLaw
  tx : s.TxLaw → t.TxLaw
  assembly : s.AssemblyLaw → t.AssemblyLaw
  window : s.CfgLaw → s.SessionLaw → s.WindowLaw → t.WindowLaw
  contents : s.Inv → t.Contents
  reset : s.ResetLaw → t.ResetLaw

namespace Keeps

variable {s t u : State}

theorem inv (h : Keeps s t) (hs : s.Inv) : t.Inv := by
  have hc := h.contents hs
  obtain ⟨hplace, hentry, hmessage⟩ := (tableLaw_iff t).1 hc.table
  exact
    { cfg := h.cfg hs.cfg
      bounds := h.bounds hs.bounds
      line := h.line hs.line
      session := h.session hs.cfg hs.session
      tx := h.tx hs.tx
      assembly := h.assembly hs.assembly
      window := h.window hs.cfg hs.session hs.window
      slot := (slotLaw_iff t).2 hc.slots
      place := hplace
      entry := hentry
      message := hmessage
      frame := hc.frame
      reset := h.reset hs.reset }

theorem refl (s : State) : Keeps s s :=
  { KeepsLaws.refl s with
    session := fun _ => id
    tx := id
    assembly := id
    window := fun _ _ => id
    contents := State.Inv.contents
    reset := id }

theorem trans (h : Keeps s t) (k : Keeps t u) : Keeps s u :=
  { h.toKeepsLaws.trans k.toKeepsLaws with
    session := fun hc hs => k.session (h.cfg hc) (h.session hc hs)
    tx := k.tx ∘ h.tx
    assembly := k.assembly ∘ h.assembly
    window := fun hc hs hw => k.window (h.cfg hc) (h.session hc hs) (h.window hc hs hw)
    contents := k.contents ∘ h.inv
    reset := k.reset ∘ h.reset }

theorem ite {c : Prop} [Decidable c] (ht : c → Keeps s t) (hu : ¬c → Keeps s u) :
    Keeps s (if c then t else u) := by
  split
  next hc => exact ht hc
  next hc => exact hu hc

theorem foldl {α : Type} {f : State → α → State} (h : ∀ t a, Keeps t (f t a)) (as : List α) (s : State) :
    Keeps s (as.foldl f s) := by
  induction as generalizing s with
  | nil => exact refl s
  | cons a as ih => exact (h s a).trans (ih (f s a))

/-! ### Operations under which the link stands -/

/-- The link stands; the Delivered List of a link that is not ACTIVE stays empty; and what the queue and the slots
hold stays lawful. -/
theorem of_sameLink (hr : s.resetting = none) (hk : KeepsLaws s t) (h : SameLink s t)
    (hheld : s.session.link ≠ .active → s.delivered = [] → t.delivered = [])
    (hc : s.Inv → t.Carrying s.window.records t.delivered) : Keeps s t :=
  { hk with
    session := fun _ hs => hs.congr h.session (by rw [h.arbiter]) (by rw [h.arbiter]) h.linkCfg
    tx := fun hs => by
      rw [State.TxLaw, h.session, h.tx]
      exact hs
    assembly := fun hs => by
      rw [State.AssemblyLaw, h.session, h.receiver]
      exact hs
    window := fun _ _ ⟨hconsecutive, hlength, hresend, htimer, hretry, hrun, hinactive⟩ => by
      rw [State.WindowLaw, h.window, h.session, h.arbiter, h.linkCfg, h.receiver, h.replies]
      refine ⟨hconsecutive, hlength, hresend, htimer, hretry, hrun, fun hl => ?_⟩
      obtain ⟨hrecords, hcount, hstopped, hdelivered, hrest⟩ := hinactive hl
      exact ⟨hrecords, hcount, hstopped, hheld hl hdelivered, hrest⟩
    contents := fun hs =>
      { toCarrying := by
          rw [h.window]
          exact hc hs
        frame := by
          rw [State.FrameLaw, h.window]
          exact hs.frame }
    reset := fun hs => hs.running hr (h.resetting.trans hr) (by rw [h.bus]) }

/-- Operations of the Source Table that leave the Delivered List alone. -/
theorem of_sameSide (hr : s.resetting = none) (hk : KeepsLaws s t) (h : SameSide s t)
    (htable : ∀ {F D}, s.TableLaw F D → t.TableLaw F D) : Keeps s t :=
  of_sameLink hr hk h.toSameLink (fun _ hd => h.delivered.trans hd) fun hs =>
    have hc := hs.contents
    { table := h.delivered ▸ htable hc.table
      slots := h.notes ▸ hc.slots }

/-- Operations of the Note Unit. -/
theorem setNotes (hr : s.resetting = none) (v : NoteUnit) (hk : KeepsLaws s (s.setNotes v))
    (hslots : ∀ {P}, s.notes.SlotsLaw P → v.SlotsLaw P) : Keeps s (s.setNotes v) :=
  of_sameLink hr hk {} (fun _ hd => hd) fun hs => ⟨hs.contents.table, hslots hs.contents.slots⟩

/-! ### Flags, statistics and refusals -/

theorem setRegs (hr : s.resetting = none) (v : Registers) (h : v.linkCfg = s.regs.linkCfg := by rfl) :
    Keeps s (s.setRegs v) :=
  of_sameSide hr (Steady.setRegs s v h).keepsLaws (SameSide.setRegs s v h) fun ht => ht.congr

theorem refuse (hr : s.resetting = none) (r : Request) (operand : BitVec 16) (reason : RefuseReason) :
    Keeps s (s.refuse r operand reason) := setRegs hr _

theorem count (hr : s.resetting = none) (c : Counter) : Keeps s (s.count c) := setRegs hr _

theorem raiseFlag (hr : s.resetting = none) (f : CauseFlag) : Keeps s (s.raiseFlag f) := setRegs hr _

/-! ### Lines, soft requests and the Source Table -/

theorem observe (hr : s.resetting = none) (l : LineId) (level : Bool) : Keeps s (s.observe l level) :=
  of_sameSide hr (KeepsLaws.observe s l level) (SameSide.observe s l level) fun h => h.observe l level

theorem intervalExpiry (hr : s.resetting = none) (l : LineId) : Keeps s (s.intervalExpiry l) :=
  of_sameSide hr (KeepsLaws.intervalExpiry s l) (SameSide.intervalExpiry s l) fun h => h.intervalExpiry l

theorem softRaise (hr : s.resetting = none) (v : Word) : Keeps s (s.softRaise v) :=
  of_sameSide hr (Steady.softRaise s v).keepsLaws (SameSide.softRequest s _ v _ (SameSide.raiseSoft s))
    fun h => State.TableLaw.softRequest h _ v _ h.raiseSoft

theorem softLower (hr : s.resetting = none) (v : Word) : Keeps s (s.softLower v) :=
  of_sameSide hr (Steady.softLower s v).keepsLaws (SameSide.softRequest s _ v _ (SameSide.lowerSoft s))
    fun h => State.TableLaw.softRequest h _ v _ h.lowerSoft

theorem writeSrcIndex (hr : s.resetting = none) (v : Word) : Keeps s (s.writeSrcIndex v) := by
  unfold State.writeSrcIndex
  cases sourceOf v.toNat with
  | none => exact refuse hr _ _ _
  | some n => exact setRegs hr _

theorem writeSrcConfig (hr : s.resetting = none) (v : Word) : Keeps s (s.writeSrcConfig v) :=
  of_sameSide hr (KeepsLaws.writeSrcConfig s v) (SameSide.writeSrcConfig s v) fun h => h.writeSrcConfig v

theorem maskSet (hr : s.resetting = none) (n : SourceId) : Keeps s (s.maskSet n) :=
  of_sameSide hr (Steady.maskSet s n).keepsLaws (SameSide.maskSet s n) fun h => h.maskSet n

theorem maskClear (hr : s.resetting = none) (n : SourceId) : Keeps s (s.maskClear n) :=
  of_sameSide hr (Steady.maskClear s n).keepsLaws (SameSide.maskClear s n) fun h => h.maskClear n

theorem maskSetAll (hr : s.resetting = none) (ns : List SourceId) : Keeps s (s.maskSetAll ns) :=
  of_sameSide hr (Steady.maskSetAll s ns).keepsLaws (SameSide.maskSetAll s ns) fun h => h.maskSetAll ns

theorem maskClearAll (hr : s.resetting = none) (ns : List SourceId) (hnodup : ns.Nodup) :
    Keeps s (s.maskClearAll ns) :=
  of_sameSide hr (Steady.maskClearAll s ns).keepsLaws (SameSide.maskClearAll s ns) fun h =>
    h.maskClearAll ns hnodup

theorem holdoffExpiry (hr : s.resetting = none) (n : SourceId) : Keeps s (s.holdoffExpiry n) :=
  of_sameSide hr (Steady.holdoffExpiry s n).keepsLaws (SameSide.holdoffExpiry s n) fun h => h.holdoffExpiry n

theorem forceIdle (hr : s.resetting = none) (op : Byte) : Keeps s (s.forceIdle op) := by
  obtain ⟨hlink, hnotes, hdelivered⟩ := SameLink.forceIdle s op
  exact of_sameLink hr (Steady.forceIdle s op).keepsLaws hlink
    (fun _ hd => List.subset_nil.1 (hd ▸ hdelivered)) fun hs =>
      ⟨hs.contents.table.forceIdle op, hnotes ▸ hs.contents.slots⟩

/-- TABLE_CLEAR is refused in ACTIVE, and elsewhere nothing is in flight and nothing delivered (R36). -/
theorem tableClear (hr : s.resetting = none) : Keeps s s.tableClear := by
  by_cases hl : s.session.link = .active
  · rw [State.tableClear, if_pos hl]
    exact refuse hr _ _ _
  · have hsame := SameSide.tableClear s
    refine of_sameLink hr (Steady.tableClear s).keepsLaws hsame.toSameLink (fun _ hd => hsame.delivered.trans hd)
      fun hs => ⟨?_, hsame.notes ▸ hs.contents.slots⟩
    obtain ⟨-, -, -, -, -, -, hinactive⟩ := hs.window
    obtain ⟨hrecords, -, -, hdelivered, -⟩ := hinactive hl
    have htable := hs.contents.table
    rw [hrecords, hdelivered] at htable
    rw [hsame.delivered, hrecords, hdelivered, s.tableClear_inactive hl]
    exact (State.TableLaw.cleared htable).congr

/-! ### Completions, notes and replies, in ACTIVE -/

theorem takeCompletion (hr : s.resetting = none) (hl : s.session.link = .active) (oldest : Bool) (vector : Byte) :
    Keeps s (s.takeCompletion oldest vector) := by
  obtain ⟨hlink, hnotes⟩ := SameLink.takeCompletion s oldest vector
  exact of_sameLink hr (Steady.takeCompletion s oldest vector).keepsLaws hlink (fun h => absurd hl h) fun hs =>
    ⟨hs.contents.table.takeCompletion oldest vector, hnotes ▸ hs.contents.slots⟩

theorem takeNote (hr : s.resetting = none) (tag : Byte) (data : List Byte)
    (hroom : s.notes.fifo.length < Config.fifoSize) (hdata : 1 ≤ data.length ∧ data.length ≤ 8) :
    Keeps s (s.takeNote tag data) :=
  of_sameLink hr (KeepsLaws.takeNote s tag data hroom hdata) {} (fun _ hd => hd) fun hs =>
    ⟨hs.contents.table.congr, hs.contents.slots⟩

/-- A reply appended in ACTIVE (R169). -/
theorem answer (hr : s.resetting = none) (hl : s.session.link = .active) (tag : Byte) (result : ReplyResult)
    (records : List SourceRecord) (hroom : s.replies.length < Config.replyQueueSize)
    (hrecords : records.length ≤ 8) : Keeps s (s.answer tag result records) :=
  { KeepsLaws.answer s tag result records hroom hrecords with
    session := fun _ => id
    tx := id
    assembly := id
    window := fun _ _ ⟨hconsecutive, hlength, hresend, htimer, hretry, hrun, _⟩ =>
      ⟨hconsecutive, hlength, hresend, htimer, hretry, hrun, fun h => absurd hl h⟩
    contents := fun hs => { hs.contents with table := hs.contents.table.congr }
    reset := fun hs => hs.running hr hr }

/-! ### The Note Unit -/

theorem noteSend (hr : s.resetting = none) : Keeps s s.noteSend := by
  have hlaws := (Steady.noteSend s).keepsLaws
  unfold State.noteSend at *
  cases hk : s.notes.freeSlot with
  | none => exact refuse hr _ _ _
  | some k =>
    simp only [hk] at hlaws ⊢
    split at hlaws
    next hlength =>
      rw [if_pos hlength]
      exact refuse hr _ _ _
    next hlength =>
      rw [if_neg hlength]
      refine setNotes hr _ hlaws fun h => h.send (NoteUnit.freeSlot_spec hk) _ ?_
      have hstaged : s.notes.stagedBytes.length = 8 := rfl
      have hzero : s.notes.outLength.toNat ≠ 0 := fun h0 => hlength (.inl (BitVec.eq_of_toNat_eq h0))
      rw [NoteUnit.staged, List.length_take, hstaged]
      omega

theorem notePop (hr : s.resetting = none) : Keeps s s.notePop := by
  have hlaws := (Steady.notePop s).keepsLaws
  unfold State.notePop at *
  split at hlaws
  next => exact refuse hr _ _ _
  next => exact setNotes hr _ hlaws fun h => h

theorem noteFlush (hr : s.resetting = none) : Keeps s s.noteFlush :=
  setNotes hr _ (Steady.noteFlush s).keepsLaws fun h => h.flush

end Keeps

end Sys2Proof.Machine
end

section
/-! PROOFS. The queue of commands, the clock, the local bus and the device reset keep every law; and so do LINK_CFG
and LINK_FAULT. -/

namespace Sys2Proof.Machine

namespace State

variable {s : State}

/-! ### The law of resets -/

/-- While a reset is in effect, the state but for what stands through it: the lines with the level of their pins
taken off. -/
theorem ResetLaw.blocks (h : s.ResetLaw) {cause : ResetCause} (hc : s.resetting = some cause) :
    s.setLines (s.lines.map fun l => { l with pin := false, observed := false, accepted := false }) =
      { State.reset with
        pending := s.pending, now := s.now, freeCount := s.freeCount, bus := s.bus,
        resetting := some cause, regs := Registers.reset cause } := h.2 cause hc

theorem ResetLaw.setPending (h : s.ResetLaw) (v : List Instr) : (s.setPending v).ResetLaw :=
  ⟨h.1, fun _ hc => congrArg (·.setPending v) (h.blocks hc)⟩

theorem ResetLaw.setNow (h : s.ResetLaw) (v : Nat) : (s.setNow v).ResetLaw :=
  ⟨h.1, fun _ hc => congrArg (·.setNow v) (h.blocks hc)⟩

theorem ResetLaw.setBus (h : s.ResetLaw) (v : Bus) (hv : s.resetting = none → v.waiting = []) :
    (s.setBus v).ResetLaw :=
  ⟨hv, fun _ hc => congrArg (·.setBus v) (h.blocks hc)⟩

/-- The level of a pin is outside what a reset sets. -/
theorem ResetLaw.setPin (h : s.ResetLaw) (l : LineId) (level : Bool) :
    (s.setLine l { s.line l with pin := level }).ResetLaw := by
  refine ⟨h.1, fun cause hc => ?_⟩
  have hlines : (s.lines.set l.val { s.line l with pin := level }).map
      (fun x => { x with pin := false, observed := false, accepted := false }) =
      s.lines.map fun x => { x with pin := false, observed := false, accepted := false } := by
    refine Vector.ext fun i hi => ?_
    rw [Vector.getElem_map, Vector.getElem_map, Vector.getElem_set]
    split
    next hli =>
      subst hli
      rfl
    next => rfl
  refine Eq.trans ?_ (h.blocks hc)
  exact congrArg s.setLines hlines

/-! ### A device whose blocks are at their reset values -/

/-- Every block but the lines and the registers holds its reset value, and LINK_CFG does (R190). -/
structure AtReset (t : State) : Prop where
  softLevels : t.softLevels = Vector.replicate 8 false := by rfl
  sources : t.sources = Vector.replicate 40 Source.reset := by rfl
  queue : t.queue = Vector.replicate 4 [] := by rfl
  delivered : t.delivered = [] := by rfl
  arbiter : t.arbiter = Arbiter.reset := by rfl
  tx : t.tx = none := by rfl
  window : t.window = Window.reset := by rfl
  receiver : t.receiver = Receiver.reset := by rfl
  session : t.session = Session.reset := by rfl
  notes : t.notes = NoteUnit.reset := by rfl
  replies : t.replies = [] := by rfl
  linkCfg : t.regs.linkCfg = LinkCfg.reset := by rfl

theorem AtReset.sessionLaw (h : s.AtReset) : s.SessionLaw := by
  rw [SessionLaw, h.session, h.arbiter, h.linkCfg]
  decide

theorem AtReset.txLaw (h : s.AtReset) : s.TxLaw := by
  rw [TxLaw, h.session, h.tx]
  decide

theorem AtReset.assemblyLaw (h : s.AtReset) : s.AssemblyLaw := by
  rw [AssemblyLaw, h.receiver]
  exact nofun

theorem AtReset.windowLaw (h : s.AtReset) : s.WindowLaw := by
  rw [WindowLaw, h.session, h.arbiter, h.linkCfg, h.window, h.receiver, h.replies, h.delivered]
  decide

/-- With the queue empty every line may have any level. -/
theorem AtReset.contents (h : s.AtReset) : s.Contents where
  table := by
    rw [h.window, h.delivered]
    refine .mk (fun c m hm => ?_) fun n => ?_
    · rw [h.queue] at hm
      simp at hm
    · have hsrc : s.src n = Source.reset := by simp [State.src, h.sources]
      rw [LawfulAt, hsrc, h.queue]
      exact Source.Lawful.quiet nofun (fun _ => .inl rfl) rfl rfl rfl rfl
  slots := by
    rw [h.window, h.notes]
    intro k
    have hslot : NoteUnit.reset.slots[k.val] = .free := by simp [NoteUnit.reset]
    rw [hslot]
    exact ⟨rfl, rfl, nofun⟩
  frame := by
    rw [FrameLaw, h.window]
    exact nofun

/-- While a reset is in effect every block holds its reset value (R188, R190). -/
theorem ResetLaw.atReset (h : s.ResetLaw) {cause : ResetCause} (hc : s.resetting = some cause) : s.AtReset := by
  have hblocks := h.blocks hc
  exact
    { softLevels := congrArg State.softLevels hblocks
      sources := congrArg State.sources hblocks
      queue := congrArg State.queue hblocks
      delivered := congrArg State.delivered hblocks
      arbiter := congrArg State.arbiter hblocks
      tx := congrArg State.tx hblocks
      window := congrArg State.window hblocks
      receiver := congrArg State.receiver hblocks
      session := congrArg State.session hblocks
      notes := congrArg State.notes hblocks
      replies := congrArg State.replies hblocks
      linkCfg := congrArg (fun x : State => x.regs.linkCfg) hblocks }

end State

namespace Keeps

variable {s t : State}

/-! ### Commands, clock and bus -/

theorem setPending (s : State) (v : List Instr) : Keeps s (s.setPending v) :=
  { (Steady.setPending s v).keepsLaws with
    session := fun _ => id
    tx := id
    assembly := id
    window := fun _ _ => id
    contents := fun hs => { hs.contents with table := hs.contents.table.congr }
    reset := fun hs => hs.setPending v }

theorem setNow (s : State) (v : Nat) : Keeps s (s.setNow v) :=
  { (Steady.setNow s v).keepsLaws with
    session := fun _ => id
    tx := id
    assembly := id
    window := fun _ _ => id
    contents := fun hs => { hs.contents with table := hs.contents.table.congr }
    reset := fun hs => hs.setNow v }

/-- The bus changes: outside a reset no access comes to wait. -/
theorem setBus (s : State) (v : Bus) (hv : s.resetting = none → v.waiting = s.bus.waiting) :
    Keeps s (s.setBus v) :=
  { (Steady.setBus s v).keepsLaws with
    session := fun _ => id
    tx := id
    assembly := id
    window := fun _ _ => id
    contents := fun hs => { hs.contents with table := hs.contents.table.congr }
    reset := fun hs => hs.setBus v fun hr => (hv hr).trans (hs.1 hr) }

/-! ### Device reset -/

/-- A new level on a pin while a reset is in effect. -/
theorem setPin (hr : s.resetting ≠ none) (l : LineId) (level : Bool) :
    Keeps s (s.setLine l { s.line l with pin := level }) :=
  { KeepsLaws.setPin s l level fun h => absurd h hr with
    session := fun _ => id
    tx := id
    assembly := id
    window := fun _ _ => id
    contents := fun hs => { hs.contents with table := hs.contents.table.setLine_accepted l _ rfl }
    reset := fun hs => hs.setPin l level }

theorem of_atReset (hk : KeepsLaws s t) (ht : t.AtReset) (hr : s.ResetLaw → t.ResetLaw) : Keeps s t :=
  { hk with
    session := fun _ _ => ht.sessionLaw
    tx := fun _ => ht.txLaw
    assembly := fun _ => ht.assemblyLaw
    window := fun _ _ _ => ht.windowLaw
    contents := fun _ => ht.contents
    reset := hr }

theorem enterReset (s : State) (cause : ResetCause) : Keeps s (s.enterReset cause) := by
  refine of_atReset (KeepsLaws.enterReset s cause) {} fun _ => ⟨nofun, fun c hc => ?_⟩
  obtain rfl : cause = c := Option.some.inj hc
  have hlines : (s.lines.map fun l => Line.reset l.pin).map
      (fun x => { x with pin := false, observed := false, accepted := false }) = State.reset.lines := by
    refine Vector.ext fun i hi => ?_
    simp [State.reset, Line.reset]
  exact congrArg (fun v => (s.enterReset cause).setLines v) hlines

/-- The start of the device at the end of a reset, before the accesses that waited are taken (R9, R188). -/
theorem start (s : State) {cause : ResetCause} (hc : s.resetting = some cause) :
    Keeps s ((((s.setLines (s.lines.map fun l => Line.reset l.pin)).setRegs
      { s.regs with resetCause := cause }).setResetting none).setBus { s.bus with waiting := [] }) :=
  have hlines : KeepsLaws s ((s.setLines (s.lines.map fun l => Line.reset l.pin)).setResetting none) :=
    KeepsLaws.linesFromPins s none
  { hlines.trans (Steady.elsewhere).keepsLaws with
    session := fun _ => id
    tx := id
    assembly := id
    window := fun _ _ => id
    contents := fun hs =>
      have ht := hs.reset.atReset hc
      State.AtReset.contents { ht with }
    reset := fun _ => ⟨fun _ => rfl, nofun⟩ }

/-! ### LINK_CFG and LINK_FAULT -/

/-- LINK_CFG is written in DISABLED, where neither AUTO nor RETRIES has an effect (R182). -/
theorem writeLinkCfg (hr : s.resetting = none) (v : Word) : Keeps s (s.writeLinkCfg v) := by
  have hlaws := KeepsLaws.writeLinkCfg s v
  unfold State.writeLinkCfg at *
  refine ite (fun _ => refuse hr _ _ _) fun hl => ?_
  rw [if_neg hl] at hlaws
  refine ite (fun hv => ?_) fun _ => refuse hr _ _ _
  rw [if_pos hv] at hlaws
  have hdisabled : s.session.link = .disabled := not_not.1 hl
  exact
    { hlaws with
      session := fun _ ⟨hgreet, hinterval, hdue, hdelay, hrest⟩ =>
        ⟨hgreet, hinterval, hdue, hdelay.trans (by simp [hdisabled]), hrest⟩
      tx := id
      assembly := id
      window := fun _ _ ⟨hconsecutive, hlength, hresend, htimer, _, hrun, hinactive⟩ =>
        have hzero : s.window.retry = 0 := (hinactive (by simp [hdisabled])).2.1
        ⟨hconsecutive, hlength, hresend, htimer, by simp [hzero], hrun, hinactive⟩
      contents := fun hs => { hs.contents with table := hs.contents.table.congr }
      reset := fun hs => hs.running hr hr }

/-- LINK_FAULT clears as it is read (R121). -/
theorem clearFault (hr : s.resetting = none) :
    Keeps s (s.setSession { s.session with faultCause := .none, faultCount := 0 }) :=
  { (Steady.setSession s _).keepsLaws with
    session := fun _ ⟨hgreet, hinterval, hdue, hdelay, hsync, hzero, hagreed, hoff, hheard, hactive, _⟩ =>
      ⟨hgreet, hinterval, hdue, hdelay, hsync, hzero, hagreed, hoff, hheard, hactive, fun _ => rfl⟩
    tx := id
    assembly := id
    window := fun _ _ => id
    contents := fun hs => { hs.contents with table := hs.contents.table.congr }
    reset := fun hs => hs.running hr hr }

theorem takeRead (hr : s.resetting = none) (r : Register) : Keeps s (s.takeRead r) := by
  have hread : Keeps s (s.afterRead r) ∧ (s.afterRead r).bus = s.bus := by
    unfold State.afterRead
    split
    · exact ⟨setRegs hr _, rfl⟩
    · exact ⟨clearFault hr, rfl⟩
    · exact ⟨refl s, rfl⟩
  exact hread.1.trans (setBus _ _ fun _ => by rw [hread.2])

end Keeps

end Sys2Proof.Machine
end

section
/-! PROOFS. The Session Controller keeps every law (spec/06). Each departure from a link state leaves the greeting, the
SYNC count and the restart delay at rest and everything of a session empty, whatever state follows. -/

namespace Sys2Proof.Machine

namespace State

variable {s t u : State}

/-! ### A link state left -/

/-- The greeting, the SYNC count and the restart delay are at rest, and no window is agreed. -/
structure AtRest (s : State) : Prop where
  greetTimeout : s.session.greetTimeout = none
  greetInterval : s.arbiter.greetInterval = none
  helloDue : s.arbiter.helloDue = false
  restartDelay : s.session.restartDelay = none
  syncCount : s.session.syncCount = 0
  agreed : s.session.agreed = 0
  fault : s.session.faultCause = .none → s.session.faultCount = 0

/-- Everything that a session holds is empty, stopped or 0 (R117). -/
structure Emptied (s : State) : Prop where
  records : s.window.records = []
  retry : s.window.retry = 0
  timer : s.window.timer = none
  delivered : s.delivered = []
  replies : s.replies = []
  ackDue : s.arbiter.ackDue = none
  nakDue : s.arbiter.nakDue = none
  resend : s.arbiter.resend = none
  finalHelloDue : s.arbiter.finalHelloDue = false
  badRun : s.receiver.badRun = 0
  nakSent : s.receiver.nakSent = false

theorem WindowLaw.emptied (h : s.WindowLaw) (hl : s.session.link ≠ .active) : s.Emptied := by
  obtain ⟨-, -, -, -, -, -, hinactive⟩ := h
  obtain ⟨h1, h2, h3, h4, h5, h6, h7, h8, h9, h10, h11⟩ := hinactive hl
  exact ⟨h1, h2, h3, h4, h5, h6, h7, h8, h9, h10, h11⟩

/-- The law of a Window without records, in any link state. -/
theorem windowLaw_of_records_nil (hrecords : s.window.records = []) (hresend : s.arbiter.resend = none)
    (htimer : s.window.timer = none) (hretry : s.window.retry = 0) (hrun : s.receiver.badRun = 0)
    (hinactive : s.session.link ≠ .active → s.Emptied) : s.WindowLaw := by
  refine ⟨?_, by simp [hrecords], by simp [hresend], by simp [htimer], by simp [hretry],
    by simp [hrun, Config.badRunLimit], fun hl => ?_⟩
  · intro i
    have hi := i.isLt
    simp [hrecords] at hi
  · obtain ⟨h1, h2, h3, h4, h5, h6, h7, h8, h9, h10, h11⟩ := hinactive hl
    exact ⟨h1, h2, h3, h4, h5, h6, h7, h8, h9, h10, h11⟩

theorem Emptied.windowLaw (h : s.Emptied) : s.WindowLaw :=
  windowLaw_of_records_nil h.records h.resend h.timer h.retry h.badRun fun _ => h

/-- Outside ACTIVE nothing is in flight and nothing delivered. -/
theorem Carrying.of_emptied (h : s.Carrying s.window.records s.delivered) (he : s.Emptied) : s.Carrying 0 0 := by
  rw [he.records, he.delivered] at h
  exact h

theorem leaveLink_disabled (h : s.session.link = .disabled) : s.leaveLink = s := by rw [leaveLink, h]

theorem leaveLink_syncing (h : s.session.link = .syncing) :
    s.leaveLink = s.setSession { s.session with syncCount := 0 } := by rw [leaveLink, h]

theorem leaveLink_greeting (h : s.session.link = .greeting) : s.leaveLink = s.abandonGreeting := by
  rw [leaveLink, h]

theorem leaveLink_active (h : s.session.link = .active) : s.leaveLink = s.endSession := by rw [leaveLink, h]

theorem leaveLink_failed (h : s.session.link = .failed) :
    s.leaveLink = s.setSession { s.session with restartDelay := none } := by rw [leaveLink, h]

theorem SessionLaw.greeting_over (h : s.SessionLaw) (hl : s.session.link ≠ .greeting) :
    s.session.greetTimeout = none ∧ s.arbiter.greetInterval = none ∧ s.arbiter.helloDue = false := by
  obtain ⟨hgreet, hinterval, hdue, -⟩ := h
  simpa [hl] using And.intro hgreet (And.intro hinterval hdue)

theorem SessionLaw.restart_over (h : s.SessionLaw) (hl : s.session.link ≠ .failed) :
    s.session.restartDelay = none := by
  obtain ⟨-, -, -, hdelay, -⟩ := h
  simpa [hl] using hdelay

theorem SessionLaw.syncCount_eq_zero (h : s.SessionLaw) (hl : s.session.link ≠ .syncing) :
    s.session.syncCount = 0 := by
  obtain ⟨-, -, -, -, -, hsync, -⟩ := h
  exact hsync hl

theorem SessionLaw.agreed_eq_zero (h : s.SessionLaw) (hg : s.session.link ≠ .greeting)
    (ha : s.session.link ≠ .active) : s.session.agreed = 0 := by
  obtain ⟨-, -, -, -, -, -, -, hagreed, -⟩ := h
  exact hagreed hg ha

theorem SessionLaw.faultCount_eq_zero (h : s.SessionLaw) (hc : s.session.faultCause = .none) :
    s.session.faultCount = 0 := by
  obtain ⟨-, -, -, -, -, -, -, -, -, -, hfault⟩ := h
  exact hfault hc

theorem leaveLink_atRest (h : s.SessionLaw) : s.leaveLink.AtRest := by
  have hgreeting := h.greeting_over
  have hrestart := h.restart_over
  have hsync := h.syncCount_eq_zero
  have hagreed := h.agreed_eq_zero
  cases hl : s.session.link with
  | disabled =>
    obtain ⟨hgreet, hinterval, hdue⟩ := hgreeting (by simp [hl])
    rw [leaveLink_disabled hl]
    exact ⟨hgreet, hinterval, hdue, hrestart (by simp [hl]), hsync (by simp [hl]),
      hagreed (by simp [hl]) (by simp [hl]), h.faultCount_eq_zero⟩
  | syncing =>
    obtain ⟨hgreet, hinterval, hdue⟩ := hgreeting (by simp [hl])
    rw [leaveLink_syncing hl]
    exact ⟨hgreet, hinterval, hdue, hrestart (by simp [hl]), rfl, hagreed (by simp [hl]) (by simp [hl]),
      h.faultCount_eq_zero⟩
  | greeting =>
    rw [leaveLink_greeting hl]
    exact ⟨rfl, rfl, rfl, hrestart (by simp [hl]), hsync (by simp [hl]), rfl, h.faultCount_eq_zero⟩
  | active =>
    obtain ⟨hgreet, hinterval, hdue⟩ := hgreeting (by simp [hl])
    rw [leaveLink_active hl]
    obtain ⟨-, -, -, -, hsession, -, -, harbiter, -, -⟩ := s.endSession_over
    constructor <;> simp only [hsession, harbiter]
    exacts [hgreet, hinterval, hdue, hrestart (by simp [hl]), hsync (by simp [hl]), h.faultCount_eq_zero]
  | failed =>
    obtain ⟨hgreet, hinterval, hdue⟩ := hgreeting (by simp [hl])
    rw [leaveLink_failed hl]
    exact ⟨hgreet, hinterval, hdue, rfl, hsync (by simp [hl]), hagreed (by simp [hl]) (by simp [hl]),
      h.faultCount_eq_zero⟩

theorem endSession_emptied (s : State) : s.endSession.Emptied := by
  have hover := s.endSession_over
  constructor <;> simp only [hover.window, hover.arbiter, hover.receiver, hover.replies, hover.delivered]

/-- Leaving a link state other than ACTIVE touches the Session Controller and the greeting alone. -/
theorem leaveLink_inactive (hl : s.session.link ≠ .active) :
    ∃ σ g, s.leaveLink = (s.setSession σ).setArbiter g ∧ g.ackDue = s.arbiter.ackDue ∧
      g.nakDue = s.arbiter.nakDue ∧ g.resend = s.arbiter.resend ∧ g.finalHelloDue = s.arbiter.finalHelloDue := by
  cases h : s.session.link with
  | active => exact absurd h hl
  | disabled => exact ⟨s.session, s.arbiter, leaveLink_disabled h, rfl, rfl, rfl, rfl⟩
  | syncing => exact ⟨{ s.session with syncCount := 0 }, s.arbiter, leaveLink_syncing h, rfl, rfl, rfl, rfl⟩
  | greeting => exact ⟨_, _, leaveLink_greeting h, rfl, rfl, rfl, rfl⟩
  | failed => exact ⟨{ s.session with restartDelay := none }, s.arbiter, leaveLink_failed h, rfl, rfl, rfl, rfl⟩

theorem leaveLink_emptied (h : s.session.link ≠ .active → s.Emptied) : s.leaveLink.Emptied := by
  by_cases hl : s.session.link = .active
  · rw [leaveLink_active hl]
    exact s.endSession_emptied
  · obtain ⟨σ, g, hu, hack, hnak, hresend, hfinal⟩ := leaveLink_inactive hl
    rw [hu]
    have he := h hl
    exact ⟨he.records, he.retry, he.timer, he.delivered, he.replies, hack.trans he.ackDue, hnak.trans he.nakDue,
      hresend.trans he.resend, hfinal.trans he.finalHelloDue, he.badRun, he.nakSent⟩

theorem leaveLink_carrying (h : s.Carrying s.window.records s.delivered)
    (he : s.session.link ≠ .active → s.Emptied) : s.leaveLink.Carrying 0 0 := by
  by_cases hl : s.session.link = .active
  · rw [leaveLink_active hl]
    exact h.endSession
  · obtain ⟨σ, g, hu, -⟩ := leaveLink_inactive hl
    have hc := h.of_emptied (he hl)
    rw [hu]
    exact ⟨hc.table.congr, hc.slots⟩

theorem leaveLink_stands (s : State) :
    s.leaveLink.resetting = s.resetting ∧ s.leaveLink.bus = s.bus ∧
      s.leaveLink.regs.linkCfg = s.regs.linkCfg ∧ s.leaveLink.tx = s.tx := by
  by_cases hl : s.session.link = .active
  · rw [leaveLink_active hl]
    have hover := s.endSession_over
    exact ⟨hover.resetting, hover.bus, hover.linkCfg, hover.tx⟩
  · obtain ⟨σ, g, hu, -⟩ := leaveLink_inactive hl
    rw [hu]
    exact ⟨rfl, rfl, rfl, rfl⟩

/-! ### The link state that follows -/

/-- A new Session Controller, the assembly back in HUNT (R102), a new item in transmission and new CAUSE flags. -/
def arrived (u : State) (σ : Session) (x : Option Item) (cause : Byte) : State :=
  { u with
    session := σ
    receiver := { u.receiver with assembly := none }
    tx := x
    regs := { u.regs with cause := cause } }

/-- At rest, the law of sessions holds in DISABLED and SYNCING. -/
theorem AtRest.sessionLaw (h : s.AtRest) (hl : s.session.link = .disabled ∨ s.session.link = .syncing) :
    s.SessionLaw := by
  obtain ⟨h1, h2, h3, h4, h5, h6, h7⟩ := h
  rcases hl with hl | hl <;> simp [SessionLaw, h1, h2, h3, h4, h5, h6, hl, Config.syncsWanted] <;> exact h7

theorem AtRest.syncing (h : s.AtRest) (x : Option Item) (cause : Byte) :
    (s.arrived { s.session with link := .syncing, syncCount := 0 } x cause).SessionLaw :=
  AtRest.sessionLaw
    ⟨h.greetTimeout, h.greetInterval, h.helloDue, h.restartDelay, rfl, h.agreed, h.fault⟩ (.inr rfl)

theorem AtRest.disabled (h : s.AtRest) (x : Option Item) (cause : Byte) :
    (s.arrived { s.session with link := .disabled } x cause).SessionLaw :=
  AtRest.sessionLaw { h with } (.inl rfl)

/-- In FAILED the restart delay runs by AUTO, and a first fault leaves the count at 0 (R116, R119, R120). -/
theorem AtRest.failed (h : s.AtRest) (fault : FaultCause) (x : Option Item) (cause : Byte) :
    (s.arrived { (s.recordFault fault).session with
      link := .failed
      restartDelay := if s.regs.linkCfg.auto then some s.now else none } x cause).SessionLaw := by
  obtain ⟨hgreet, hinterval, hdue, -, hsync, hagreed, hfault⟩ := h
  rw [recordFault_eq]
  by_cases hf : s.session.faultCause = .none
  · simp [SessionLaw, arrived, hgreet, hinterval, hdue, hsync, hagreed, hf, hfault hf, Config.syncsWanted]
  · simp [SessionLaw, arrived, hgreet, hinterval, hdue, hsync, hagreed, hf, Config.syncsWanted]

theorem enterSyncing_setTx (s : State) (x : Option Item) :
    s.enterSyncing.setTx x =
      s.arrived { s.session with link := .syncing, syncCount := 0 } x s.regs.cause := rfl

theorem enterSyncing_setTx_self (s : State) : s.enterSyncing.setTx s.tx = s.enterSyncing := rfl

theorem setLink_disabled_setTx (s : State) (x : Option Item) :
    (s.setLink .disabled).setTx x = s.arrived { s.session with link := .disabled } x s.regs.cause := rfl

/-- What is sent when SYNCING begins without a break: the item in transmission runs to its end (R84, R86). -/
theorem beginSync_eq (s : State) : s.beginSync = s.setTx (some (s.tx.getD .sync)) := by
  unfold beginSync
  split
  next h => rw [h]; rfl
  next h =>
    obtain ⟨i, hi⟩ := Option.ne_none_iff_exists'.1 h
    have hsent : some (s.tx.getD .sync) = s.tx := by rw [hi, Option.getD_some]
    rw [hsent]
    rfl

/-- The smaller of two windows of 1 to 8 is 1 to 8 (R112). -/
theorem recordHello_agreed (s : State) (window epoch : Byte) (hc : s.CfgLaw)
    (hw : 1 ≤ window.toNat ∧ window.toNat ≤ Config.maxWindow) :
    1 ≤ (s.recordHello window epoch).session.agreed.toNat ∧
      (s.recordHello window epoch).session.agreed.toNat ≤ Config.maxWindow := by
  simp only [CfgLaw, LinkCfg.valid, Bool.and_eq_true, decide_eq_true_eq] at hc
  obtain ⟨⟨⟨hlow, hhigh⟩, -⟩, -⟩ := hc
  unfold Config.maxWindow at *
  change 1 ≤ (if _ then _ else _ : BitVec 4).toNat ∧ (if _ then _ else _ : BitVec 4).toNat ≤ 8
  split
  · rw [BitVec.toNat_setWidth, Nat.mod_eq_of_lt (by omega)]
    exact hw
  · exact ⟨hlow, hhigh⟩

/-- The law on the queue, the slots and the Window speaks of these fields alone. -/
theorem Contents.congr (h : s.Contents) (hqueue : t.queue = s.queue := by rfl)
    (hsources : t.sources = s.sources := by rfl) (hlines : t.lines = s.lines := by rfl)
    (hsoft : t.softLevels = s.softLevels := by rfl) (hnotes : t.notes = s.notes := by rfl)
    (hdelivered : t.delivered = s.delivered := by rfl)
    (hrecords : t.window.records = s.window.records := by rfl) : t.Contents where
  table := by
    rw [hrecords, hdelivered]
    exact h.table.congr hqueue hsources hlines hsoft
  slots := by
    rw [hrecords, hnotes]
    exact h.slots
  frame := by
    rw [FrameLaw, hrecords]
    exact h.frame

theorem Carrying.contents (h : s.Carrying 0 0) (he : s.Emptied) : s.Contents where
  table := by
    rw [he.records, he.delivered]
    exact h.table
  slots := by
    rw [he.records]
    exact h.slots
  frame := by
    rw [FrameLaw, he.records]
    exact nofun

end State

/-- GREETING and SYNCING send the same items. -/
theorem mayBeSending_greeting (x : Option Item) : Link.greeting.mayBeSending x = Link.syncing.mayBeSending x := by
  rcases x with _ | (_ | _) <;> rfl

namespace Keeps

variable {s t : State}

/-- From s the device comes to t, of which it leaves the link state lawfully. -/
structure Departing (s t : State) : Prop where
  laws : KeepsLaws s t
  running : t.resetting = none
  reset : s.ResetLaw → t.ResetLaw
  session : s.CfgLaw → s.SessionLaw → t.SessionLaw
  emptied : s.WindowLaw → t.session.link ≠ .active → t.Emptied
  carrying : s.Inv → t.Carrying t.window.records t.delivered

theorem Departing.refl (hr : s.resetting = none) : Departing s s where
  laws := KeepsLaws.refl s
  running := hr
  reset := id
  session := fun _ => id
  emptied := State.WindowLaw.emptied
  carrying := fun hs => hs.contents.toCarrying

/-- The link state of t is left and another entered, which is not ACTIVE (R108, R109, R113, R116, R119). -/
theorem Departing.arrived (h : Departing s t) (σ : Session) (x : Option Item) (cause : Byte)
    (hsession : t.leaveLink.AtRest → (t.leaveLink.arrived σ x cause).SessionLaw)
    (htx : s.TxLaw → σ.link.mayBeSending x = true) : Keeps s (t.leaveLink.arrived σ x cause) := by
  obtain ⟨hr, hbus, -, -⟩ := t.leaveLink_stands
  have hsteady : Steady t (t.leaveLink.arrived σ x cause) := (Steady.leaveLink t).trans Steady.elsewhere
  have hemptied (hw : s.WindowLaw) : (t.leaveLink.arrived σ x cause).Emptied :=
    have he := State.leaveLink_emptied (h.emptied hw)
    ⟨he.records, he.retry, he.timer, he.delivered, he.replies, he.ackDue, he.nakDue, he.resend, he.finalHelloDue,
      he.badRun, he.nakSent⟩
  exact
    { h.laws.trans hsteady.keepsLaws with
      session := fun hc hs => hsession (State.leaveLink_atRest (h.session hc hs))
      tx := htx
      assembly := fun _ => nofun
      window := fun _ _ hw => (hemptied hw).windowLaw
      contents := fun hs =>
        have hcarrying := State.leaveLink_carrying (h.carrying hs) (h.emptied hs.window)
        State.Carrying.contents ⟨hcarrying.table.congr, hcarrying.slots⟩ (hemptied hs.window)
      reset := fun hs => (h.reset hs).running h.running (hr.trans h.running)
        (congrArg Bus.waiting hbus) }

/-- FAILED is entered (R116, R119, R120). -/
theorem Departing.enterFailed (h : Departing s t) (cause : FaultCause) : Keeps s (t.enterFailed cause) := by
  rw [State.enterFailed_eq]
  exact h.arrived _ _ _ (fun hu => hu.failed cause _ _) fun _ => rfl

/-! ### Commands of the link -/

/-- SYNCING is entered (R107, R109, R113, R119). -/
theorem Departing.enterSyncing (h : Departing s t) (x : Option Item)
    (htx : s.TxLaw → Link.syncing.mayBeSending x = true) : Keeps s (t.leaveLink.enterSyncing.setTx x) := by
  rw [State.enterSyncing_setTx]
  exact h.arrived _ _ _ (fun hu => hu.syncing x _) htx

theorem linkEnable (hr : s.resetting = none) : Keeps s s.linkEnable := by
  unfold State.linkEnable
  refine ite (fun hl => ?_) fun _ => refl s
  have hsame := State.leaveLink_disabled hl
  rw [State.beginSync_eq]
  have h := (Departing.refl hr).enterSyncing (some (s.tx.getD .sync)) fun htx => by
    rw [State.TxLaw, hl] at htx
    simp only [Link.mayBeSending, decide_eq_true_eq] at htx
    rw [htx]
    rfl
  rwa [hsame] at h

theorem linkDisable (hr : s.resetting = none) : Keeps s s.linkDisable :=
  ite (fun _ => refl s) fun _ =>
    s.leaveLink.setLink_disabled_setTx none ▸
      (Departing.refl hr).arrived _ _ _ (fun hu => hu.disabled none _) fun _ => rfl

theorem linkRestart (hr : s.resetting = none) : Keeps s s.linkRestart :=
  ite (fun _ => refuse hr _ _ _) fun _ => (Departing.refl hr).enterSyncing (some .brk) fun _ => rfl

theorem restartDelayExpiry (hr : s.resetting = none) : Keeps s s.restartDelayExpiry := by
  unfold State.restartDelayExpiry
  refine ite (fun hl => ?_) fun _ => refl s
  rw [State.beginSync_eq]
  obtain ⟨-, -, -, hsent⟩ := s.leaveLink_stands
  refine (Departing.refl hr).enterSyncing _ fun htx => ?_
  rw [State.TxLaw, hl.1] at htx
  simp only [Link.mayBeSending, Bool.or_eq_true, decide_eq_true_eq] at htx
  change Link.syncing.mayBeSending (some (s.leaveLink.tx.getD .sync)) = true
  rw [hsent]
  rcases htx with htx | htx <;> rw [htx] <;> rfl

theorem greetTimeoutExpiry (hr : s.resetting = none) : Keeps s s.greetTimeoutExpiry :=
  ite (fun _ => (Departing.refl hr).enterFailed .greetTimeout) fun _ => refl s

/-! ### Greeting and session start -/

theorem greetIntervalExpiry (hr : s.resetting = none) : Keeps s s.greetIntervalExpiry :=
  ite (fun ⟨hl, _⟩ =>
    { (Steady.setArbiter s _).keepsLaws with
      session := fun _ ⟨hgreet, _, _, hrest⟩ => ⟨hgreet, by simp [hl], fun _ => hl, hrest⟩
      tx := id
      assembly := id
      window := fun _ _ => id
      contents := fun hs => hs.contents.congr
      reset := fun hs => hs.running hr hr }) fun _ => refl s

/-- The SYNC count in SYNCING, below 4 (R110). -/
theorem setSyncCount (hr : s.resetting = none) (hl : s.session.link = .syncing) (k : Nat)
    (hk : k < Config.syncsWanted) : Keeps s (s.setSession { s.session with syncCount := k }) :=
  { (Steady.setSession s _).keepsLaws with
    session := fun _ ⟨hgreet, hinterval, hdue, hdelay, _, _, hrest⟩ =>
      ⟨hgreet, hinterval, hdue, hdelay, hk, fun h => absurd hl h, hrest⟩
    tx := id
    assembly := id
    window := fun _ _ => id
    contents := fun hs => hs.contents.congr
    reset := fun hs => hs.running hr hr }

/-- GREETING is entered from SYNCING (R111). -/
theorem enterGreeting (hr : s.resetting = none) (hl : s.session.link = .syncing) : Keeps s s.enterGreeting :=
  { (Steady.enterGreeting s).keepsLaws with
    session := fun _ hs => by
      have hrestart := hs.restart_over (by simp [hl])
      have hfault := hs.faultCount_eq_zero
      rw [State.enterGreeting_eq]
      simpa [State.SessionLaw, hrestart, Config.syncsWanted] using hfault
    tx := fun hs => by
      rw [State.TxLaw, hl, ← mayBeSending_greeting] at hs
      exact hs
    assembly := fun _ => nofun
    window := fun _ _ hs =>
      have he := hs.emptied (by simp [hl])
      State.Emptied.windowLaw { he with }
    contents := fun hs => hs.contents.congr
    reset := fun hs => hs.running hr hr }

theorem countSync (hr : s.resetting = none) (hl : s.session.link = .syncing) (v : Option Byte) :
    Keeps s (s.countSync v) :=
  ite (fun _ => ite (fun _ => enterGreeting hr hl) fun hk => setSyncCount hr hl _ (Nat.lt_of_not_le hk)) fun _ =>
    setSyncCount hr hl 0 (by decide)

/-- A valid HELLO recorded in GREETING (R112): each window is 1 to 8, and so is the smaller of the two. -/
theorem recordHello (hr : s.resetting = none) (hl : s.session.link = .greeting) (window epoch : Byte)
    (hw : 1 ≤ window.toNat ∧ window.toNat ≤ Config.maxWindow) : Keeps s (s.recordHello window epoch) :=
  { (Steady.recordHello s window epoch).keepsLaws with
    session := fun hc ⟨hgreet, hinterval, hdue, hdelay, hsync, hzero, _, _, _, _, hfault⟩ =>
      have hagreed := s.recordHello_agreed window epoch hc hw
      have hne : (s.recordHello window epoch).session.agreed ≠ 0 := fun h => by simp [h] at hagreed
      ⟨hgreet, hinterval, hdue, hdelay, hsync, hzero, hagreed.2, fun h => absurd hl h,
        fun _ => ⟨fun _ => hne, fun _ => rfl⟩, fun _ => hne, hfault⟩
    tx := id
    assembly := id
    window := fun _ _ hs =>
      have he := hs.emptied (by simp [hl])
      State.Emptied.windowLaw { he with }
    contents := fun hs => hs.contents.congr
    reset := fun hs => hs.running hr hr }

/-- A session starts from GREETING, where a HELLO has been recorded (R114). -/
theorem startSession (hr : s.resetting = none) (hl : s.session.link = .greeting) (hheard : s.session.heard = true) :
    Keeps s s.startSession := by
  have hlaws := (Steady.startSession s).keepsLaws
  rw [State.startSession_eq] at hlaws ⊢
  exact
    { hlaws with
      session := fun _ hs => by
        have hrestart := hs.restart_over (by simp [hl])
        have hsync := hs.syncCount_eq_zero (by simp [hl])
        obtain ⟨-, -, -, -, -, -, hagreed, -, hrecorded, -, hfault⟩ := hs
        have hwindow : s.session.agreed ≠ 0 := (hrecorded hl).1 hheard
        simp only [State.SessionLaw, reduceCtorEq, false_and, iff_false, hrestart, hsync]
        exact ⟨by simp, by simp, by simp, by simp, by decide, fun _ => trivial, hagreed, fun _ h => absurd rfl h,
          nofun, fun _ => hwindow, hfault⟩
      tx := fun _ => rfl
      assembly := fun _ => nofun
      window := fun _ _ _ => State.windowLaw_of_records_nil rfl rfl rfl rfl rfl fun h => absurd rfl h
      contents := fun hs =>
        have he := hs.window.emptied (by simp [hl])
        hs.contents.congr (hrecords := he.records.symm)
      reset := fun hs => hs.running hr hr }

theorem greetHello (hr : s.resetting = none) (hl : s.session.link = .greeting) (heard : Bool)
    (revision window epoch role : Byte) : Keeps s (s.greetHello heard revision window epoch role) := by
  refine ite (fun hvalid => ?_) fun _ => (Departing.refl hr).enterFailed _
  simp only [helloValid, Bool.and_eq_true, decide_eq_true_eq] at hvalid
  obtain ⟨⟨⟨-, hlow⟩, hhigh⟩, -⟩ := hvalid
  have hrecorded := recordHello hr hl window epoch ⟨hlow, hhigh⟩
  exact ite (fun _ => hrecorded.trans (startSession hr hl rfl)) fun _ => hrecorded

theorem activeHello (hr : s.resetting = none) (epoch : Byte) : Keeps s (s.activeHello epoch) :=
  ite (fun _ => refl s) fun _ => (Departing.refl hr).enterFailed _

theorem takeBreak (hr : s.resetting = none) : Keeps s s.takeBreak := by
  unfold State.takeBreak
  cases hl : s.session.link with
  | disabled => exact refl s
  | syncing => exact setSyncCount hr hl 0 (by decide)
  | greeting =>
    obtain ⟨-, -, -, hsent⟩ := s.leaveLink_stands
    have h := (Departing.refl hr).enterSyncing s.leaveLink.tx fun htx => by
      rw [State.TxLaw, hl, mayBeSending_greeting] at htx
      exact hsent ▸ htx
    rwa [State.leaveLink_greeting hl, State.enterSyncing_setTx_self] at h
  | active => exact (Departing.refl hr).enterFailed _
  | failed => exact refl s

end Keeps

end Sys2Proof.Machine
end

section
/-! PROOFS. The Retransmit Window keeps every law (spec/07): its numbers stay consecutive, an acknowledged record takes
its source or its slot along, and past RETRIES the session fails. -/

namespace Sys2Proof.Machine

namespace Window

variable {w : Window}

/-! ### Consecutive numbers (R124, R125) -/

theorem consecutive_iff :
    w.consecutive ↔ ∀ i (h : i < w.records.length),
      (w.records[i]).seq + BitVec.ofNat 6 (w.records.length - i) = w.next :=
  ⟨fun h i hi => h ⟨i, hi⟩, fun h i => h i.val i.isLt⟩

theorem consecutive.drop (h : w.consecutive) (k retry : Nat) (timer : Timer) :
    Window.consecutive { w with records := w.records.drop k, retry := retry, timer := timer } := by
  rw [consecutive_iff] at h ⊢
  intro i hi
  rw [List.length_drop] at hi
  have hseq := h (k + i) (by omega)
  rw [List.getElem_drop, List.length_drop, Nat.sub_sub]
  exact hseq

theorem consecutive.append (h : w.consecutive) (b : Body) :
    Window.consecutive
      { w with records := w.records ++ [{ seq := w.next, body := b }], next := w.next + 1 } := by
  rw [consecutive_iff] at h ⊢
  intro i hi
  dsimp only at hi ⊢
  rw [List.length_append, List.length_singleton] at hi ⊢
  by_cases hold : i < w.records.length
  · rw [List.getElem_append_left hold, Nat.sub_add_comm (Nat.le_of_lt hold), BitVec.ofNat_add, ← BitVec.add_assoc,
      h i hold]
    rfl
  · obtain rfl : i = w.records.length := by omega
    rw [List.getElem_append_right (Nat.le_refl _), Nat.add_sub_cancel_left]
    simp

/-- A number that the Window holds is the number of the record at its place. -/
theorem seq_of_holds (h : w.consecutive) {n : SeqNum} (hn : w.holds n = true) :
    ∃ hi : w.offset n < w.records.length, (w.records[w.offset n]).seq = n := by
  have hi : w.offset n < w.records.length := of_decide_eq_true hn
  refine ⟨hi, ?_⟩
  rw [consecutive_iff] at h
  have hfirst := h 0 (by omega)
  have hplace := h (w.offset n) hi
  have hoffset : BitVec.ofNat 6 (w.offset n) = n - (w.records[0]'(by omega)).seq := by
    unfold offset
    split
    next hnil => simp [hnil] at hi
    next r rs hcons =>
      simp only [hcons, List.getElem_cons_zero]
      rw [BitVec.ofNat_toNat, BitVec.setWidth_eq]
  have hsum : BitVec.ofNat 6 (w.records.length - 0) =
      BitVec.ofNat 6 (w.records.length - w.offset n) + BitVec.ofNat 6 (w.offset n) := by
    rw [← BitVec.ofNat_add]
    congr 1
    omega
  rw [hsum, hoffset] at hfirst
  rw [← hplace] at hfirst
  generalize (w.records[w.offset n]).seq = a at hfirst ⊢
  generalize (w.records[0]).seq = c at hfirst
  generalize BitVec.ofNat 6 (w.records.length - w.offset n) = b at hfirst
  bv_omega

theorem exists_record_of_holds (h : w.consecutive) {n : SeqNum} (hn : w.holds n = true) :
    ∃ r ∈ w.records, r.seq = n :=
  have ⟨hi, hseq⟩ := seq_of_holds h hn
  ⟨_, List.getElem_mem hi, hseq⟩

/-- The record of a number held stands at its place, before which the older ones stand. -/
theorem exists_record_drop_offset (h : w.consecutive) {n : SeqNum} (hn : w.holds n = true) :
    ∃ r ∈ w.records.drop (w.offset n), r.seq = n := by
  obtain ⟨hi, hseq⟩ := seq_of_holds h hn
  refine ⟨w.records[w.offset n], ?_, hseq⟩
  rw [List.drop_eq_getElem_cons hi]
  exact List.mem_cons_self

/-- The oldest number is that of a record. -/
theorem exists_record_oldest {n : SeqNum} (hn : n ∈ w.oldest) : ∃ r ∈ w.records, r.seq = n := by
  obtain ⟨r, hr, hseq⟩ := Option.map_eq_some_iff.1 hn
  exact ⟨r, List.mem_of_head? hr, hseq⟩

end Window

/-- The moved resend point names a record that remains (R127, R130). -/
theorem exists_record_movedResend {resend : Option SeqNum} {gone left : List FrameRecord} {w : Window}
    (hw : w.records = left) (h : ∀ n ∈ resend, ∃ r ∈ gone ++ left, r.seq = n) {n : SeqNum}
    (hn : n ∈ movedResend resend gone w) : ∃ r ∈ left, r.seq = n := by
  cases resend with
  | none => cases hn
  | some p =>
    simp only [movedResend] at hn
    split at hn
    next => exact hw ▸ Window.exists_record_oldest hn
    next hgone =>
      obtain rfl : p = n := Option.some.inj hn
      obtain ⟨r, hr, hseq⟩ := h p rfl
      refine ⟨r, (List.mem_append.1 hr).resolve_left fun hmem => hgone ?_, hseq⟩
      exact List.any_eq_true.2 ⟨r, hmem, by simpa using hseq⟩

namespace Keeps

variable {s t u : State}

/-! ### Records leave the Window in ACTIVE -/

/-- The k oldest records of the Window have left it as acknowledged, which u is the outcome of; the resend point, the
retry count and the timer are set. -/
theorem acknowledged (hr : s.resetting = none) (hl : s.session.link = .active) (k : Nat) (p : Option SeqNum)
    (retry : Nat) (timer : Timer)
    (hp : s.WindowLaw → ∀ n ∈ p, ∃ r ∈ s.window.records.drop k, r.seq = n)
    (hretry : s.WindowLaw → retry ≤ s.regs.linkCfg.retries.toNat)
    (htimer : s.WindowLaw → timer.isSome → s.window.records.drop k ≠ []) :
    Keeps s (((s.removeAcked k).setArbiter { (s.removeAcked k).arbiter with resend := p }).setWindow
      { (s.removeAcked k).window with retry := retry, timer := timer }) := by
  have hlink := State.removeAcked_sameLink s k
  have hlaws := ((Steady.removeAcked s k).trans (Steady.setArbiter _
    { (s.removeAcked k).arbiter with resend := p })).trans (Steady.setWindow _
      { (s.removeAcked k).window with retry := retry, timer := timer })
  have hcarrying (hs : s.Inv) := hs.contents.toCarrying.removeAcked k
  generalize s.removeAcked k = u at *
  have hinterval : u.arbiter.greetInterval = s.arbiter.greetInterval := congrArg _ hlink.arbiter
  have hdue : u.arbiter.helloDue = s.arbiter.helloDue := congrArg _ hlink.arbiter
  exact
    { hlaws.keepsLaws with
      session := fun _ hs => hs.congr hlink.session hinterval hdue hlink.linkCfg
      tx := fun hs => by
        change u.TxLaw
        rw [State.TxLaw, hlink.session, hlink.tx]
        exact hs
      assembly := fun hs => by
        change u.AssemblyLaw
        rw [State.AssemblyLaw, hlink.session, hlink.receiver]
        exact hs
      window := fun _ _ hw => by
        have hw' := hw
        obtain ⟨hconsecutive, hlength, -, -, -, hrun, -⟩ := hw'
        have hwindow : u.window = { s.window with records := s.window.records.drop k } := hlink.window
        have hsession : u.session = s.session := hlink.session
        have hreceiver : u.receiver = s.receiver := hlink.receiver
        have hcfg : u.regs.linkCfg = s.regs.linkCfg := hlink.linkCfg
        refine ⟨?_, ?_, ?_, ?_, ?_, ?_, fun h => absurd (hsession ▸ hl) h⟩
        · simp only [State.setWindow, hwindow]
          exact hconsecutive.drop k retry timer
        · simp only [State.setWindow, State.setArbiter, hwindow, hsession, List.length_drop]
          omega
        · simp only [State.setWindow, State.setArbiter, hwindow]
          exact hp hw
        · simp only [State.setWindow, hwindow]
          exact htimer hw
        · simp only [State.setWindow, State.setArbiter, hcfg]
          exact hretry hw
        · simp only [State.setWindow, State.setArbiter, hreceiver]
          exact hrun
      contents := fun hs =>
        { table := by
            have htable := (hcarrying hs).table
            simp only [State.setWindow, State.setArbiter, hlink.window]
            exact htable.congr
          slots := by
            have hslots := (hcarrying hs).slots
            simp only [State.setWindow, State.setArbiter, hlink.window]
            exact hslots
          frame := by
            simp only [State.FrameLaw, State.setWindow, State.setArbiter, hlink.window]
            exact fun r hmem => hs.frame r (List.mem_of_mem_drop hmem) }
      reset := fun hs => hs.running hr (hlink.resetting.trans hr) (congrArg Bus.waiting hlink.bus) }

/-- A retransmission is counted after the k oldest records have left (R129, R132, R133). -/
theorem countRetry (hr : s.resetting = none) (hl : s.session.link = .active) (k : Nat) (p : Option SeqNum)
    (hp : s.WindowLaw → ∀ n ∈ p, ∃ r ∈ s.window.records.drop k, r.seq = n)
    (hne : s.WindowLaw → s.window.records.drop k ≠ []) : Keeps s ((s.removeAcked k).countRetry p) := by
  have hlink := State.removeAcked_sameLink s k
  refine ite (fun _ => Departing.enterFailed ?_ _) fun hretries =>
    acknowledged hr hl k p _ _ hp (fun _ => ?_) fun hw _ => hne hw
  · have hlaws := (Steady.removeAcked s k).trans (Steady.setWindow _
      { (s.removeAcked k).window with retry := (s.removeAcked k).window.retry + 1 })
    have hcarrying (hs : s.Inv) := hs.contents.toCarrying.removeAcked k
    generalize s.removeAcked k = u at *
    have hwindow : u.window = { s.window with records := s.window.records.drop k } := hlink.window
    exact
      { laws := hlaws.keepsLaws
        running := hlink.resetting.trans hr
        reset := fun hs => hs.running hr (hlink.resetting.trans hr) (congrArg Bus.waiting hlink.bus)
        session := fun _ hs => hs.congr hlink.session (congrArg Arbiter.greetInterval hlink.arbiter)
          (congrArg Arbiter.helloDue hlink.arbiter) hlink.linkCfg
        emptied := fun _ h => absurd ((congrArg Session.link hlink.session).trans hl) h
        carrying := fun hs => by
          simp only [State.setWindow, hwindow]
          exact ⟨(hcarrying hs).table.congr, (hcarrying hs).slots⟩ }
  · have hcfg : (s.removeAcked k).regs.linkCfg = s.regs.linkCfg := hlink.linkCfg
    rw [← hcfg]
    exact Nat.le_of_not_lt hretries

theorem takeAck (hr : s.resetting = none) (hl : s.session.link = .active) (n : SeqNum) : Keeps s (s.takeAck n) := by
  have hwindow : (s.removeAcked (s.window.offset n + 1)).window.records =
      s.window.records.drop (s.window.offset n + 1) :=
    congrArg Window.records (State.removeAcked_sameLink s _).window
  refine ite (fun _ => acknowledged hr hl _ _ _ _ (fun hw m hm => ?_) (fun _ => Nat.zero_le _) fun _ ht => ?_)
    fun _ => refl s
  · obtain ⟨-, -, hresend, -⟩ := hw
    refine exists_record_movedResend hwindow ?_ hm
    rwa [List.take_append_drop]
  · intro hnil
    rw [← hwindow] at hnil
    change (if (s.removeAcked (s.window.offset n + 1)).window.records = [] then none else _ : Timer).isSome = true at ht
    rw [if_pos hnil] at ht
    exact absurd ht nofun

theorem takeNak (hr : s.resetting = none) (hl : s.session.link = .active) (n : SeqNum) : Keeps s (s.takeNak n) := by
  refine ite (fun hn => countRetry hr hl _ _ (fun hw m hm => ?_) fun _ => ?_) fun _ => refl s
  · obtain ⟨hconsecutive, -⟩ := hw
    obtain rfl : n = m := Option.some.inj hm
    exact Window.exists_record_drop_offset hconsecutive hn
  · have hlt : s.window.offset n < s.window.records.length := of_decide_eq_true hn
    rw [ne_eq, List.drop_eq_nil_iff]
    omega

theorem ackTimerExpiry (hr : s.resetting = none) : Keeps s s.ackTimerExpiry :=
  ite (fun ⟨hl, hruns⟩ => countRetry hr hl 0 s.window.oldest (fun _ _ => Window.exists_record_oldest)
    fun ⟨_, _, _, htimer, _⟩ => htimer hruns) fun _ => refl s

end Keeps

end Sys2Proof.Machine
end

section
/-! PROOFS. The Link Receiver keeps every law (spec/05, spec/07, spec/10): frame assembly, good and bad frames, sequence
handling, and what the consumers of ACTIVE do. -/

namespace Sys2Proof.Machine

namespace State

variable {s : State}

/-- A frame in COLLECT with one character more, which does not end it (R100). -/
theorem AssemblyLaw.add (h : s.AssemblyLaw) {c : Collecting} (hc : s.receiver.assembly = some c) (v : Option Byte)
    (hthird : c.received ≠ 3) (hlast : ¬(c.len = some (c.received + 1 - 6) ∧ 6 ≤ c.received + 1)) :
    (s.setReceiver { s.receiver with assembly := some (c.add v) }).AssemblyLaw := by
  obtain ⟨hlink, hreceived, hnone, hlen, hbytes⟩ := h c hc
  intro a ha
  obtain rfl : c.add v = a := Option.some.inj ha
  refine ⟨hlink, Nat.le_add_left 1 _, fun hl => ?_, fun l hl => ?_, fun herror => ?_⟩
  · have hfew := hnone hl
    change c.received + 1 ≤ 3
    omega
  · obtain ⟨hmax, hfour, hfew⟩ := hlen l hl
    have hl : c.len = some l := hl
    refine ⟨hmax, Nat.le_succ_of_le hfour, ?_⟩
    change c.received + 1 < 6 + l
    by_contra hend
    exact hlast ⟨hl.trans (congrArg some (by omega)), by omega⟩
  · obtain ⟨hgood, hv⟩ : c.errorMark = false ∧ v.isNone = false := by simpa [Collecting.add] using herror
    obtain ⟨b, rfl⟩ := Option.isSome_iff_exists.1 (by simpa using hv)
    simp [Collecting.add, hbytes hgood]

/-- The fourth character gives the frame its length (R100). -/
theorem AssemblyLaw.lengthByte (h : s.AssemblyLaw) {c : Collecting} (hc : s.receiver.assembly = some c) {b : Byte}
    (hthird : c.received = 3) (hb : b.toNat ≤ Config.maxPayload) :
    (s.setReceiver { s.receiver with assembly := some { c.add (some b) with len := some b.toNat } }).AssemblyLaw := by
  obtain ⟨hlink, -, -, -, hbytes⟩ := h c hc
  intro a ha
  obtain rfl := Option.some.inj ha
  refine ⟨hlink, Nat.le_add_left 1 _, nofun, fun l hl => ?_, fun herror => ?_⟩
  · obtain rfl : b.toNat = l := Option.some.inj hl
    refine ⟨hb, ?_⟩
    simp only [Collecting.add, hthird]
    omega
  · have hgood : c.errorMark = false := by simpa [Collecting.add] using herror
    simp [Collecting.add, hbytes hgood]

/-- A frame begun in GREETING or ACTIVE (R100). -/
theorem assemblyLaw_start (hl : s.session.link = .greeting ∨ s.session.link = .active) :
    (s.setReceiver { s.receiver with assembly := some Collecting.start }).AssemblyLaw := by
  intro a ha
  obtain rfl := Option.some.inj ha
  exact ⟨hl, by decide, fun _ => by decide, nofun, fun _ => rfl⟩

end State

namespace Keeps

variable {s t : State}

/-! ### The Receiver and the Arbiter -/

/-- The assembly moves on, or returns to HUNT. -/
theorem setAssembly (hr : s.resetting = none) (a : Option Collecting)
    (ha : s.AssemblyLaw → (s.setReceiver { s.receiver with assembly := a }).AssemblyLaw) :
    Keeps s (s.setReceiver { s.receiver with assembly := a }) :=
  { (Steady.setReceiver s _).keepsLaws with
    session := fun _ => id
    tx := id
    assembly := ha
    window := fun _ _ => id
    contents := fun hs => hs.contents.congr
    reset := fun hs => hs.running hr hr }

theorem hunt (hr : s.resetting = none) : Keeps s (s.setReceiver { s.receiver with assembly := none }) :=
  setAssembly hr none fun _ => nofun

/-- The Receiver in ACTIVE, with the assembly as it stands and no more bad frames in a row. -/
theorem setReceiver (hr : s.resetting = none) (hl : s.session.link = .active) (v : Receiver)
    (hrun : v.badRun < Config.badRunLimit ∨ v.badRun = s.receiver.badRun)
    (ha : v.assembly = s.receiver.assembly := by rfl) : Keeps s (s.setReceiver v) :=
  { (Steady.setReceiver s v).keepsLaws with
    session := fun _ => id
    tx := id
    assembly := fun hs => by
      rw [State.AssemblyLaw, State.setReceiver, ha]
      exact hs
    window := fun _ _ ⟨hconsecutive, hlength, hresend, htimer, hretry, hold, _⟩ =>
      ⟨hconsecutive, hlength, hresend, htimer, hretry, hrun.elim id fun h => h ▸ hold, fun h => absurd hl h⟩
    contents := fun hs => hs.contents.congr
    reset := fun hs => hs.running hr hr }

/-- The Arbiter in ACTIVE: what is due, and the resend point over the records. -/
theorem setArbiter (hr : s.resetting = none) (hl : s.session.link = .active) (v : Arbiter)
    (hresend : s.WindowLaw → ∀ n ∈ v.resend, ∃ r ∈ s.window.records, r.seq = n)
    (hinterval : v.greetInterval = s.arbiter.greetInterval := by rfl)
    (hdue : v.helloDue = s.arbiter.helloDue := by rfl) : Keeps s (s.setArbiter v) :=
  { (Steady.setArbiter s v).keepsLaws with
    session := fun _ hs => hs.congr rfl hinterval hdue
    tx := id
    assembly := id
    window := fun _ _ hw =>
      have hpoint := hresend hw
      have ⟨hconsecutive, hlength, _, htimer, hretry, hrun, _⟩ := hw
      ⟨hconsecutive, hlength, hpoint, htimer, hretry, hrun, fun h => absurd hl h⟩
    contents := fun hs => hs.contents.congr
    reset := fun hs => hs.running hr hr }

/-- The Arbiter in ACTIVE with the resend point as it stands. -/
theorem setDue (hr : s.resetting = none) (hl : s.session.link = .active) (v : Arbiter)
    (hresend : v.resend = s.arbiter.resend := by rfl)
    (hinterval : v.greetInterval = s.arbiter.greetInterval := by rfl)
    (hdue : v.helloDue = s.arbiter.helloDue := by rfl) : Keeps s (s.setArbiter v) :=
  setArbiter hr hl v (fun ⟨_, _, hold, _⟩ => hresend ▸ hold) hinterval hdue

/-! ### Sequence handling (R138 to R143) -/

/-- An operation of ACTIVE that keeps every law, and after which the session stands. -/
structure Serves (s t : State) : Prop extends Keeps s t where
  session_eq : t.session = s.session
  resetting_eq : t.resetting = s.resetting

theorem acceptSequenced (hr : s.resetting = none) (hl : s.session.link = .active) (n : SeqNum) :
    Keeps s (s.acceptSequenced n) :=
  (setReceiver hr hl { s.receiver with expected := n + 1, nakSent := false } (.inr rfl)).trans
    (setDue (by exact hr) (by exact hl) _)

theorem duplicate (hr : s.resetting = none) (hl : s.session.link = .active) : Keeps s s.duplicate :=
  (setDue hr hl { s.arbiter with ackDue := some (s.receiver.expected - 1) }).trans
    (count (by exact hr) .inboundDuplicates)

theorem ahead (hr : s.resetting = none) (hl : s.session.link = .active) : Keeps s s.ahead :=
  ite (fun _ => refl s) fun _ =>
    (setDue hr hl { s.arbiter with nakDue := some s.receiver.expected }).trans
      (setReceiver (by exact hr) (by exact hl) { s.receiver with nakSent := true } (.inr rfl))

/-- A sequenced frame whose consumer, when it has room, serves it. -/
theorem sequenced (hr : s.resetting = none) (hl : s.session.link = .active) (n : SeqNum) (room : Bool)
    (consume : State → State) (h : room = true → Serves s (consume s)) : Keeps s (s.sequenced n room consume) := by
  unfold State.sequenced
  cases classify s.receiver.expected n with
  | expected =>
    refine ite (fun hroom => ?_) fun _ => count hr .inboundDeferred
    obtain ⟨hkeeps, hsession, hresetting⟩ := h hroom
    exact hkeeps.trans (acceptSequenced (hresetting.trans hr) (hsession ▸ hl) n)
  | duplicate => exact duplicate hr hl
  | ahead => exact ahead hr hl

/-! ### Control requests (R170 to R173) -/

theorem serves_answer (hr : s.resetting = none) (hl : s.session.link = .active) (tag : Byte) (result : ReplyResult)
    (records : List SourceRecord) (hroom : s.replies.length < Config.replyQueueSize)
    (hrecords : records.length ≤ 8) : Serves s (s.answer tag result records) :=
  ⟨answer hr hl tag result records hroom hrecords, rfl, rfl⟩

theorem remoteMask (hr : s.resetting = none) (hl : s.session.link = .active) (tag : Byte) (n : SourceId)
    (op : RemoteOp) (hroom : s.replies.length < Config.replyQueueSize) : Serves s (s.remoteMask tag n op) := by
  have hside : SameSide s (if op = .mask then s.maskSet n else s.maskClear n) :=
    SameSide.ite (SameSide.maskSet s n) (SameSide.maskClear s n)
  have hmask : Keeps s (if op = .mask then s.maskSet n else s.maskClear n) :=
    ite (fun _ => maskSet hr n) fun _ => maskClear hr n
  unfold State.remoteMask
  generalize (if op = .mask then s.maskSet n else s.maskClear n) = u at *
  have hru : u.resetting = none := hside.resetting.trans hr
  have hflag := raiseFlag hru .remoteAction
  have hremote := setRegs (s := u.raiseFlag .remoteAction) hru
    { (u.raiseFlag .remoteAction).regs with remote := { source := n, op := op } }
  have hanswer := serves_answer (s := (u.raiseFlag .remoteAction).setRegs
    { (u.raiseFlag .remoteAction).regs with remote := { source := n, op := op } }) hru
      ((congrArg Session.link hside.session).trans hl) tag .ok
      [((u.raiseFlag .remoteAction).setRegs
        { (u.raiseFlag .remoteAction).regs with remote := { source := n, op := op } }).capture n]
      ((congrArg List.length hside.replies).trans_lt hroom) (Nat.one_le_ofNat)
  exact ⟨hmask.trans (hflag.trans (hremote.trans hanswer.toKeeps)), hside.session, hside.resetting⟩

theorem Serves.ite {c : Prop} [Decidable c] {u : State} (ht : c → Serves s t) (hu : ¬c → Serves s u) :
    Serves s (if c then t else u) := by
  split
  next hc => exact ht hc
  next hc => exact hu hc

theorem controlMask (hr : s.resetting = none) (hl : s.session.link = .active) (tag first count : Byte)
    (op : RemoteOp) (hroom : s.replies.length < Config.replyQueueSize) :
    Serves s (s.controlMask tag first count op) := by
  refine .ite (fun _ => serves_answer hr hl _ _ _ hroom (Nat.zero_le _)) fun _ => ?_
  cases sourceOf first.toNat with
  | none => exact serves_answer hr hl _ _ _ hroom (Nat.zero_le _)
  | some n =>
    exact .ite (fun _ => remoteMask hr hl tag n op hroom) fun _ =>
      serves_answer hr hl _ _ _ hroom (Nat.zero_le _)

theorem controlQuery (hr : s.resetting = none) (hl : s.session.link = .active) (tag first count : Byte)
    (hroom : s.replies.length < Config.replyQueueSize) : Serves s (s.controlQuery tag first count) := by
  refine .ite (fun _ => serves_answer hr hl _ _ _ hroom (Nat.zero_le _)) fun hcount =>
    .ite (fun _ => serves_answer hr hl _ _ _ hroom (Nat.zero_le _)) fun _ => serves_answer hr hl _ _ _ hroom ?_
  rw [List.length_map]
  exact (length_sourceRange_le _ _).trans (by omega)

theorem takeControl (hr : s.resetting = none) (hl : s.session.link = .active) (tag op first count : Byte)
    (hroom : s.replies.length < Config.replyQueueSize) : Serves s (s.takeControl tag op first count) := by
  unfold State.takeControl
  split
  · exact controlMask hr hl tag first count .mask hroom
  · exact controlMask hr hl tag first count .unmask hroom
  · exact controlQuery hr hl tag first count hroom
  · exact serves_answer hr hl _ _ _ hroom (Nat.zero_le _)

/-! ### Good and bad frames (R103 to R105) -/

theorem activeFrame (hr : s.resetting = none) (hl : s.session.link = .active) (f : RxFrame) (hf : f.noteFits) :
    Keeps s (s.activeFrame f) := by
  cases f with
  | hello heard revision window epoch role => exact activeHello hr epoch
  | ack n => exact takeAck hr hl n
  | nak n => exact takeNak hr hl n
  | complete n oldest vector =>
    have hlink := (SameLink.takeCompletion s oldest vector).1
    exact sequenced hr hl n _ (fun t => t.takeCompletion oldest vector) fun _ =>
      ⟨takeCompletion hr hl oldest vector, hlink.session, hlink.resetting⟩
  | note n tag data =>
    exact sequenced hr hl n _ (fun t => t.takeNote tag data) fun hroom =>
      ⟨takeNote hr tag data (of_decide_eq_true hroom) hf, rfl, rfl⟩
  | control n tag op first count =>
    exact sequenced hr hl n _ (fun t => t.takeControl tag op first count) fun hroom =>
      takeControl hr hl tag op first count (of_decide_eq_true hroom)

theorem greetingFrame (hr : s.resetting = none) (hl : s.session.link = .greeting) (f : RxFrame) :
    Keeps s (s.greetingFrame f) := by
  cases f with
  | hello heard revision window epoch role => exact greetHello hr hl heard revision window epoch role
  | ack n => exact refl s
  | nak n => exact refl s
  | complete n oldest vector => exact refl s
  | note n tag data => exact refl s
  | control n tag op first count => exact refl s

theorem goodFrame (hr : s.resetting = none) (f : RxFrame) (hf : f.noteFits) : Keeps s (s.goodFrame f) := by
  unfold State.goodFrame
  cases hl : s.session.link with
  | disabled => exact refl s
  | syncing => exact refl s
  | greeting => exact (hunt hr).trans (greetingFrame (by exact hr) (by exact hl) f)
  | active =>
    have hcleared := setReceiver (s := s.setReceiver { s.receiver with assembly := none }) hr hl
      { s.receiver with assembly := none, badRun := 0 } (.inl (Nat.zero_lt_succ 7))
    exact (hunt hr).trans (hcleared.trans (activeFrame (by exact hr) (by exact hl) f hf))
  | failed => exact refl s

/-- From ACTIVE the session ends whatever the count of bad frames is. -/
theorem departing_badRun (hr : s.resetting = none) (hl : s.session.link = .active) (v : Receiver) :
    Departing s (s.setReceiver v) where
  laws := (Steady.setReceiver s v).keepsLaws
  running := hr
  reset := fun hs => hs.running hr hr
  session := fun _ => id
  emptied := fun _ h => absurd hl h
  carrying := fun hs => ⟨hs.contents.table.congr, hs.contents.slots⟩

/-- The eighth bad frame in a row ends the session before the count can be seen (R105). -/
theorem badFrame (hr : s.resetting = none) : Keeps s s.badFrame := by
  unfold State.badFrame
  cases hl : s.session.link with
  | disabled => exact refl s
  | syncing => exact refl s
  | greeting => exact (hunt hr).trans (count (by exact hr) .badFrames)
  | active =>
    have hcounted : Keeps s ((s.setReceiver { s.receiver with assembly := none }).count .badFrames) :=
      (hunt hr).trans (count (by exact hr) .badFrames)
    exact hcounted.trans (ite (fun _ => (departing_badRun (by exact hr) (by exact hl) _).enterFailed _) fun hrun =>
      setReceiver (by exact hr) (by exact hl) _ (.inl (Nat.lt_of_not_le hrun)))
  | failed => exact refl s

/-! ### Frame assembly (R100) -/

theorem collect (hr : s.resetting = none) {c : Collecting} (hc : s.receiver.assembly = some c) (v : Option Byte) :
    Keeps s (s.collect c v) := by
  refine ite (fun hthird => ?lengthByte) fun hthird => ite (fun _ => ?lastByte) fun hlast =>
    setAssembly hr _ fun h => h.add hc v hthird hlast
  case lengthByte =>
    cases v with
    | none => exact badFrame hr
    | some b => exact ite (fun hb => setAssembly hr _ fun h => h.lengthByte hc hthird hb) fun _ => badFrame hr
  case lastByte =>
    cases hj : judge (c.add v) with
    | none => exact badFrame hr
    | some f => exact goodFrame hr f (judge_noteFits hj)

theorem takeCharacter (hr : s.resetting = none) (v : Option Byte) : Keeps s (s.takeCharacter v) := by
  have hassemble (hl : s.session.link = .greeting ∨ s.session.link = .active) : Keeps s (s.assemble v) := by
    unfold State.assemble
    cases hc : s.receiver.assembly with
    | none => exact ite (fun _ => setAssembly hr _ fun _ => State.assemblyLaw_start hl) fun _ => refl s
    | some c => exact collect hr hc v
  unfold State.takeCharacter
  cases hl : s.session.link with
  | disabled => exact refl s
  | syncing => exact countSync hr hl v
  | greeting => exact hassemble (.inl hl)
  | active => exact hassemble (.inr hl)
  | failed => exact refl s

end Keeps

end Sys2Proof.Machine
end

section
/-! PROOFS. The Transmit Arbiter keeps every law (spec/04): a frame boundary ends an item and begins another, and a
grant moves a message, a note or a reply into the Window. -/

namespace Sys2Proof.Machine

namespace State

variable {s : State}

/-! ### What is chosen (R78) -/

/-- What a grant finds when it is chosen: room in the Window, and the candidate at the head of its collection. -/
def Grants (s : State) : Choice → Prop
  | .reply r => s.window.records.length < s.session.agreed.toNat ∧ ∃ rs, s.replies = r :: rs
  | .event m => s.window.records.length < s.session.agreed.toNat ∧ ∃ ms, s.queue.messages = m :: ms
  | .note k n => s.window.records.length < s.session.agreed.toNat ∧ s.notes.oldestWaiting = some (k, n)
  | .sync | .hello | .finalHello | .nak _ | .ack _ | .resend _ | .idle => True

theorem chooseShared_grants (hroom : s.window.records.length < s.session.agreed.toNat) :
    s.Grants s.chooseShared := by
  have hevent {m : Message} (h : s.queueHead = some m) : s.Grants (.event m) := by
    obtain ⟨ms, hms⟩ := List.head?_eq_some_iff.1 h
    exact ⟨hroom, ms, hms⟩
  unfold chooseShared
  split
  next => trivial
  next k n hnote _ => exact ⟨hroom, hnote⟩
  next m _ hm => exact hevent hm
  next k n m hnote hm =>
    cases s.arbiter.turn with
    | note => exact ⟨hroom, hnote⟩
    | event => exact hevent hm

theorem chooseGrant_grants (s : State) : s.Grants s.chooseGrant := by
  unfold chooseGrant
  split
  next hroom =>
    split
    next r rs hr => exact ⟨hroom, rs, hr⟩
    next =>
      split
      next m ms hm =>
        refine ⟨hroom, ms ++ (s.queue[2] ++ (s.queue[1] ++ s.queue[0])), ?_⟩
        rw [EventQueue.messages, hm]
        simp
      next => exact chooseShared_grants hroom
  next => trivial

theorem chooseActive_grants (s : State) : s.Grants s.chooseActive := by
  unfold chooseActive
  split
  next => trivial
  next =>
    split
    next => trivial
    next =>
      split
      next => trivial
      next =>
        split
        next => trivial
        next => exact chooseGrant_grants s

/-- The oldest waiting note stands first in the waiting order, in a WAITING slot (R158). -/
theorem oldestWaiting_eq_some {u : NoteUnit} {k : SlotId} {n : Note} (h : u.oldestWaiting = some (k, n)) :
    u.slots[k.val] = .waiting n ∧ ∃ rest, u.order = k :: rest := by
  unfold NoteUnit.oldestWaiting at h
  split at h
  next => cases h
  next j rest horder =>
    split at h
    next n' hslot =>
      cases h
      exact ⟨hslot, rest, horder⟩
    next => cases h

/-! ### Payloads (R97) -/

theorem length_payload_reply (r : Reply) : (Body.reply r).payload.length = 3 + 3 * r.records.length := by
  simp [Body.payload, List.length_flatMap, SourceRecord.bytes]
  omega

end State

namespace Keeps

variable {s t : State}

/-! ### Items without a record -/

/-- The transmitter takes an item that the link state lets it send. -/
theorem setTx (hr : s.resetting = none) (x : Option Item)
    (hx : s.TxLaw → s.session.link.mayBeSending x = true) : Keeps s (s.setTx x) :=
  { (Steady.setTx s x).keepsLaws with
    session := fun _ => id
    tx := hx
    assembly := id
    window := fun _ _ => id
    contents := fun hs => hs.contents.congr
    reset := fun hs => hs.running hr hr }

theorem setTx_active (hr : s.resetting = none) (hl : s.session.link = .active) (x : Option Item) :
    Keeps s (s.setTx x) :=
  setTx hr x fun _ => by rw [hl]; rfl

/-- A greeting HELLO is no longer due (R84). -/
theorem clearHelloDue (hr : s.resetting = none) : Keeps s (s.setArbiter { s.arbiter with helloDue := false }) :=
  { (Steady.setArbiter s _).keepsLaws with
    session := fun _ ⟨hgreet, hinterval, _, hrest⟩ => ⟨hgreet, hinterval, nofun, hrest⟩
    tx := id
    assembly := id
    window := fun _ _ => id
    contents := fun hs => hs.contents.congr
    reset := fun hs => hs.running hr hr }

/-- The resend point moves to the next newer record, if there is one (R80). -/
theorem sendResend (hr : s.resetting = none) (hl : s.session.link = .active) (r : FrameRecord) :
    Keeps s (s.send (.resend r)) := by
  have hpoint : Keeps s (s.setArbiter { s.arbiter with resend := s.window.newer r.seq }) := by
    refine setArbiter hr hl _ fun ⟨hconsecutive, _⟩ n hn => ?_
    unfold Window.newer at hn
    dsimp only at hn
    split at hn
    next hholds =>
      obtain rfl := Option.some.inj hn
      exact Window.exists_record_of_holds hconsecutive hholds
    next => cases hn
  exact hpoint.trans ((setTx_active (by exact hr) (by exact hl) (some (.sequenced r))).trans
    (count (by exact hr) .framesResent))

/-! ### Grants (R81, R125) -/

/-- A frame enters the Window: its candidate has left its collection, from s to t. -/
theorem grant (hr : s.resetting = none) (hl : s.session.link = .active)
    (hroom : s.window.records.length < s.session.agreed.toNat) (b : Body) (rs : List Reply) (hk : KeepsLaws s t)
    (h : SameLink (s.setReplies rs) t)
    (hcarrying : s.Inv →
      t.Carrying ({ seq := s.window.next, body := b } ::ₘ (s.window.records : Multiset FrameRecord)) t.delivered)
    (hpayload : s.Inv → b.payload.length ≤ Config.maxPayload) : Keeps s (t.grant b) := by
  have hwindow : t.window = s.window := h.window
  have hsession : t.session = s.session := h.session
  have hrecords : (t.grant b).window.records = s.window.records ++ [{ seq := s.window.next, body := b }] := by
    rw [← hwindow]
    rfl
  have hperm : ((s.window.records ++ [{ seq := s.window.next, body := b }] : List FrameRecord) :
      Multiset FrameRecord) = { seq := s.window.next, body := b } ::ₘ (s.window.records : Multiset FrameRecord) :=
    Multiset.coe_eq_coe.2 (List.perm_append_singleton _ _)
  exact
    { hk.trans (Steady.grant t b).keepsLaws with
      session := fun _ hs => hs.congr hsession (congrArg Arbiter.greetInterval h.arbiter)
        (congrArg Arbiter.helloDue h.arbiter) h.linkCfg
      tx := fun _ => by
        change t.session.link.mayBeSending _ = true
        rw [hsession, hl]
        rfl
      assembly := fun hs => by
        change t.AssemblyLaw
        rw [State.AssemblyLaw, hsession, h.receiver]
        exact hs
      window := fun _ _ ⟨hconsecutive, hlength, hresend, htimer, hretry, hrun, _⟩ => by
        refine ⟨?_, ?_, ?_, ?_, ?_, ?_, fun hinactive => absurd ((congrArg Session.link hsession).trans hl) hinactive⟩
        · simp only [State.grant, State.setWindow, State.setTx, hwindow]
          exact hconsecutive.append b
        · rw [hrecords, List.length_append, List.length_singleton]
          change _ ≤ t.session.agreed.toNat
          rw [hsession]
          exact hroom
        · rw [hrecords]
          change ∀ n ∈ t.arbiter.resend, _
          rw [h.arbiter]
          exact fun n hn => (hresend n hn).imp fun r hr => ⟨List.mem_append_left _ hr.1, hr.2⟩
        · rw [hrecords]
          simp
        · change t.window.retry ≤ t.regs.linkCfg.retries.toNat
          rw [hwindow, h.linkCfg]
          exact hretry
        · change t.receiver.badRun < _
          rw [h.receiver]
          exact hrun
      contents := fun hs =>
        have hc := hcarrying hs
        { table := by
            rw [hrecords, hperm]
            exact hc.table.congr
          slots := by
            rw [hrecords, hperm]
            exact hc.slots
          frame := by
            rw [State.FrameLaw, hrecords]
            intro r hmem
            rcases List.mem_append.1 hmem with hold | hnew
            · exact hs.frame r hold
            · rw [List.mem_singleton.1 hnew]
              exact hpayload hs }
      reset := fun hs => hs.running hr (h.resetting.trans hr) (congrArg Bus.waiting h.bus) }

theorem sendReply (hr : s.resetting = none) (hl : s.session.link = .active) (r : Reply)
    (hg : s.Grants (.reply r)) : Keeps s (s.send (.reply r)) := by
  obtain ⟨hroom, rs, hrs⟩ := hg
  refine grant hr hl hroom _ s.replies.tail (Steady.setReplies s _ (List.tail_suffix _)).keepsLaws {}
    (fun hs => ?_) fun hs => ?_
  · obtain ⟨htable, hslots⟩ := hs.contents.toCarrying
    constructor
    · rw [messagesOf_cons]
      exact htable.congr
    · rw [notesOf_cons]
      exact hslots
  · obtain ⟨-, -, -, hrecords⟩ := hs.bounds
    have hfew := hrecords r (by simp [hrs])
    rw [State.length_payload_reply, Config.maxPayload]
    omega

theorem passTurn (hr : s.resetting = none) (hl : s.session.link = .active) (contested : Bool) :
    Keeps s (s.passTurn contested) :=
  ite (fun _ => setDue hr hl { s.arbiter with turn := s.arbiter.turn.other }) fun _ => refl s

theorem sendEvent (hr : s.resetting = none) (hl : s.session.link = .active) (m : Message)
    (hg : s.Grants (.event m)) : Keeps s (s.send (.event m)) := by
  obtain ⟨hroom, ms, hms⟩ := hg
  have hgranted : Keeps s (((s.setQueue s.queue.dropHead).setSrc m.source
      { s.src m.source with state := .sent }).grant (.event m)) := by
    refine grant hr hl hroom _ s.replies
      ((Steady.setQueue s _).trans (Steady.setSrc _ m.source _)).keepsLaws {} (fun hs => ?_) fun _ => ?_
    · obtain ⟨htable, hslots⟩ := hs.contents.toCarrying
      constructor
      · rw [messagesOf_cons]
        exact htable.grant hms
      · rw [notesOf_cons]
        exact hslots
    · exact show 4 ≤ 27 by decide
  have hcounted : Keeps s (s.grantEvent m) := hgranted.trans (count (by exact hr) .eventsSent)
  have hrunning : (s.grantEvent m).resetting = none := hr
  have hactive : (s.grantEvent m).session.link = .active := hl
  exact hcounted.trans (passTurn hrunning hactive _)

theorem sendNote (hr : s.resetting = none) (hl : s.session.link = .active) (k : SlotId) (n : Note)
    (hg : s.Grants (.note k n)) : Keeps s (s.send (.note k n)) := by
  obtain ⟨hroom, hnote⟩ := hg
  obtain ⟨hslot, rest, horder⟩ := State.oldestWaiting_eq_some hnote
  have hgranted : Keeps s (s.grantNote k n) := by
    refine grant hr hl hroom _ s.replies (Steady.setNotes s _).keepsLaws {} (fun hs => ?_) fun hs => ?_
    · obtain ⟨htable, hslots⟩ := hs.contents.toCarrying
      constructor
      · rw [messagesOf_cons]
        exact htable.congr
      · rw [notesOf_cons, horder]
        exact hslots.grant hslot horder
    · obtain ⟨-, -, -, -, -, hfits⟩ := hs.slot
      have hdata := hfits k n (by rw [hslot]; rfl)
      change n.data.length + 1 ≤ 27
      omega
  exact hgranted.trans (passTurn (by exact hr) (by exact hl) _)

/-! ### The boundary (R76, R78, R126) -/

theorem sendActive (hr : s.resetting = none) (hl : s.session.link = .active) (c : Choice) (hg : s.Grants c) :
    Keeps s (s.send c) := by
  have hitem (v : Arbiter) (x : Option Item) (hv : Keeps s (s.setArbiter v)) : Keeps s ((s.setArbiter v).setTx x) :=
    hv.trans (setTx_active (by exact hr) (by exact hl) x)
  cases c with
  | sync => exact setTx_active hr hl _
  | hello => exact hitem _ _ (clearHelloDue hr)
  | finalHello => exact hitem _ _ (setDue hr hl _)
  | nak n => exact hitem _ _ (setDue hr hl _)
  | ack n => exact hitem _ _ (setDue hr hl _)
  | resend r => exact sendResend hr hl r
  | reply r => exact sendReply hr hl r hg
  | event m => exact sendEvent hr hl m hg
  | note k n => exact sendNote hr hl k n hg
  | idle => exact setTx_active hr hl _

theorem sendChoice (hr : s.resetting = none) : Keeps s (s.send s.choose) := by
  unfold State.choose
  cases hl : s.session.link with
  | disabled => exact setTx hr none fun _ => by rw [hl]; rfl
  | syncing => exact setTx hr (some .sync) fun _ => by rw [hl]; rfl
  | greeting =>
    by_cases hdue : s.arbiter.helloDue = true
    · simp only [hdue, if_true]
      exact (clearHelloDue hr).trans (setTx (by exact hr) _ fun _ => by
        change s.session.link.mayBeSending _ = true
        rw [hl]
        rfl)
    · simp only [hdue]
      exact setTx hr (some .sync) fun _ => by rw [hl]; rfl
  | active => exact sendActive hr hl _ s.chooseActive_grants
  | failed => exact setTx hr none fun _ => by rw [hl]; rfl

/-- A stopped timer starts over records alone (R126). -/
theorem startTimer (hr : s.resetting = none) :
    Keeps s s.endReport := by
  refine ite (fun ⟨_, hrecords⟩ => ?_) fun _ => refl s
  exact
    { (Steady.setWindow s _).keepsLaws with
      session := fun _ => id
      tx := id
      assembly := id
      window := fun _ _ ⟨hconsecutive, hlength, hresend, _, hretry, hrun, hinactive⟩ =>
        ⟨hconsecutive, hlength, hresend, fun _ => hrecords, hretry, hrun, fun h =>
          absurd (hinactive h).1 hrecords⟩
      contents := fun hs => hs.contents.congr
      reset := fun hs => hs.running hr hr }

end Keeps

namespace State

/-- The item that a boundary begins takes the place of the one that has ended. -/
theorem send_of_ended (s : State) (c : Choice) : ({ s with tx := none } : State).send c = s.send c := by
  cases c <;> rfl

theorem boundary_eq (s : State) : s.boundary = s.itemEnded.send s.itemEnded.choose := by
  unfold boundary
  rw [endItem_eq, send_of_ended]
  rfl

/-- The end of an item starts the timer or leaves the state alone (R126). -/
theorem itemEnded_eq (s : State) : s.itemEnded = s ∨ s.itemEnded = s.endReport := by
  unfold itemEnded
  split
  next htimer hrecords => exact .inr (by rw [endReport, if_pos ⟨htimer, by simp [hrecords]⟩]; rfl)
  next => exact .inl rfl

end State

theorem Keeps.boundary {s : State} (hr : s.resetting = none) : Keeps s s.boundary := by
  rw [State.boundary_eq]
  rcases s.itemEnded_eq with h | h
  · rw [h]
    exact sendChoice hr
  · rw [h]
    exact (startTimer hr).trans (sendChoice ((Steady.endReport s).resetting.trans hr))

end Sys2Proof.Machine
end

section
/-! PROOFS. Every step keeps every law of the device: the accesses of the local bus (spec/11), the end of a reset, and
every command. -/

namespace Sys2Proof.Machine

namespace Keeps

variable {s t : State}

/-! ### Accesses taken (R178, R180) -/

theorem setStaging (hr : s.resetting = none) (v : NoteUnit) (hfifo : v.fifo = s.notes.fifo := by rfl)
    (hslots : v.slots = s.notes.slots := by rfl) (horder : v.order = s.notes.order := by rfl) :
    Keeps s (s.setNotes v) :=
  setNotes hr v (Steady.setNotes s v (hfifo ▸ List.suffix_rfl)).keepsLaws fun h => by
    unfold NoteUnit.SlotsLaw
    rw [hslots, horder]
    exact h

theorem command (hr : s.resetting = none) (code operand : Byte) : Keeps s (s.command code operand) := by
  unfold State.command
  split
  · exact forceIdle hr operand
  · exact tableClear hr
  · exact noteSend hr
  · exact notePop hr
  · exact noteFlush hr
  · exact linkEnable hr
  · exact linkDisable hr
  · exact linkRestart hr
  · exact setRegs hr _
  · exact enterReset s .command
  · exact refuse hr _ _ _

theorem takeWrite (hr : s.resetting = none) (value : Word) (r : Register) : Keeps s (s.takeWrite value r) := by
  cases r with
  | srcIndex => exact writeSrcIndex hr value
  | srcConfig => exact writeSrcConfig hr value
  | maskSetLo => exact maskSetAll hr _
  | maskSetHi => exact maskSetAll hr _
  | maskClrLo => exact maskClearAll hr _ (names_sourcesLo value).nodup
  | maskClrHi => exact maskClearAll hr _ (names_sourcesHi value).nodup
  | softRaise => exact softRaise hr value
  | softLower => exact softLower hr value
  | cmd => exact command hr _ _
  | linkCfg => exact writeLinkCfg hr value
  | noteOutCtrl => exact setStaging hr _
  | noteOutData0 => exact setStaging hr _
  | noteOutData1 => exact setStaging hr _
  | cause => exact setRegs hr _
  | causeEn => exact setRegs hr _
  | _ => exact refl s

theorem takeAccess (hr : s.resetting = none) (a : Access) : Keeps s (s.takeAccess a) := by
  cases a with
  | read addr => exact takeRead hr _
  | write addr value => exact takeWrite hr value _

/-! ### The local bus and the end of a reset (R178, R188) -/

theorem onBus (s : State) (a : Access) (take : State → State) (h : s.resetting = none → Keeps s (take s)) :
    Keeps s (s.onBus a take) :=
  ite (fun hreset => setBus s _ fun hr => by simp [State.inReset, hr] at hreset) fun hreset =>
    (h (by simpa [State.inReset] using hreset)).trans (setBus _ _ fun _ => rfl)

theorem serveWaiting (s : State) (as : List Access) : Keeps s (s.serveWaiting as) :=
  foldl (fun t a => onBus t a _ fun hr => takeAccess hr a) as s

theorem endReset (s : State) : Keeps s s.endReset := by
  unfold State.endReset
  cases hc : s.resetting with
  | none => exact refl s
  | some cause => exact (start s hc).trans (serveWaiting _ _)

theorem unlessReset (s : State) (f : State → State) (h : s.resetting = none → Keeps s (f s)) :
    Keeps s (s.unlessReset f) :=
  ite (fun _ => refl s) fun hreset => h (by simpa [State.inReset] using hreset)

end Keeps

/-! ### Commands and steps -/

open Keeps in
/-- Every command keeps every law. -/
theorem exec_keeps (c : Instr) (s : State) : ∃ t, exec c s = .next t ∧ Keeps s t := by
  cases c with
  | observedLineChange l level =>
    refine ⟨_, rfl, ite (fun hreset => setPin (fun hr => ?_) l level) fun hreset => observe ?_ l level⟩
    · simp [State.inReset, hr] at hreset
    · simpa [State.inReset] using hreset
  | stabilityIntervalExpiry l => exact ⟨_, rfl, unlessReset s _ fun hr => intervalExpiry hr l⟩
  | srcIndexWrite v => exact ⟨_, rfl, onBus s _ _ fun hr => takeWrite hr v .srcIndex⟩
  | srcConfigWrite v => exact ⟨_, rfl, onBus s _ _ fun hr => takeWrite hr v .srcConfig⟩
  | maskSetLo v => exact ⟨_, rfl, onBus s _ _ fun hr => takeWrite hr v .maskSetLo⟩
  | maskSetHi v => exact ⟨_, rfl, onBus s _ _ fun hr => takeWrite hr v .maskSetHi⟩
  | maskClrLo v => exact ⟨_, rfl, onBus s _ _ fun hr => takeWrite hr v .maskClrLo⟩
  | maskClrHi v => exact ⟨_, rfl, onBus s _ _ fun hr => takeWrite hr v .maskClrHi⟩
  | softRaise v => exact ⟨_, rfl, onBus s _ _ fun hr => takeWrite hr v .softRaise⟩
  | softLower v => exact ⟨_, rfl, onBus s _ _ fun hr => takeWrite hr v .softLower⟩
  | forceIdle op => exact ⟨_, rfl, onBus s _ _ fun hr => command hr 0x01#8 op⟩
  | tableClear op => exact ⟨_, rfl, onBus s _ _ fun hr => command hr 0x02#8 op⟩
  | noteSend op => exact ⟨_, rfl, onBus s _ _ fun hr => command hr 0x03#8 op⟩
  | notePop op => exact ⟨_, rfl, onBus s _ _ fun hr => command hr 0x04#8 op⟩
  | noteFlush op => exact ⟨_, rfl, onBus s _ _ fun hr => command hr 0x05#8 op⟩
  | linkEnable op => exact ⟨_, rfl, onBus s _ _ fun hr => command hr 0x06#8 op⟩
  | linkDisable op => exact ⟨_, rfl, onBus s _ _ fun hr => command hr 0x07#8 op⟩
  | linkRestart op => exact ⟨_, rfl, onBus s _ _ fun hr => command hr 0x08#8 op⟩
  | statsClear op => exact ⟨_, rfl, onBus s _ _ fun hr => command hr 0x09#8 op⟩
  | deviceReset op => exact ⟨_, rfl, onBus s _ _ fun hr => command hr 0x0A#8 op⟩
  | unknownCommand code op => exact ⟨_, rfl, onBus s _ _ fun hr => command hr code op⟩
  | linkCfgWrite v => exact ⟨_, rfl, onBus s _ _ fun hr => takeWrite hr v .linkCfg⟩
  | linkStatusRead => exact ⟨_, rfl, onBus s _ _ fun hr => takeRead hr .linkStatus⟩
  | linkFaultRead => exact ⟨_, rfl, onBus s _ _ fun hr => takeRead hr .linkFault⟩
  | causeWrite v => exact ⟨_, rfl, onBus s _ _ fun hr => takeWrite hr v .cause⟩
  | causeEnWrite v => exact ⟨_, rfl, onBus s _ _ fun hr => takeWrite hr v .causeEn⟩
  | registerWrite addr v => exact ⟨_, rfl, onBus s _ _ fun hr => takeWrite hr v (Register.ofAddr addr)⟩
  | rstN => exact ⟨_, rfl, enterReset s .pin⟩
  | powerUp => exact ⟨_, rfl, enterReset s .pin⟩
  | resetEnd => exact ⟨_, rfl, endReset s⟩
  | character c => exact ⟨_, rfl, unlessReset s _ fun hr => takeCharacter hr (charValue c)⟩
  | characterGap => exact ⟨_, rfl, unlessReset s _ fun hr => ite (fun _ => badFrame hr) fun _ => refl s⟩
  | lineBreak =>
    exact ⟨_, rfl, unlessReset s (fun u => (u.setReceiver { u.receiver with assembly := none }).takeBreak) fun hr =>
      (hunt hr).trans (takeBreak (by exact hr))⟩
  | hello heard revision window epoch role =>
    exact ⟨_, rfl, unlessReset s _ fun hr => goodFrame hr (.hello heard revision window epoch role) True.intro⟩
  | ack n => exact ⟨_, rfl, unlessReset s _ fun hr => goodFrame hr (.ack n) True.intro⟩
  | nak n => exact ⟨_, rfl, unlessReset s _ fun hr => goodFrame hr (.nak n) True.intro⟩
  | complete seq oldest vector =>
    exact ⟨_, rfl, unlessReset s _ fun hr => goodFrame hr (.complete seq oldest vector) True.intro⟩
  | note seq tag data =>
    exact ⟨_, rfl, unlessReset s _ fun hr =>
      ite (goodFrame hr (.note seq tag data)) fun _ => badFrame hr⟩
  | control seq tag op first count =>
    exact ⟨_, rfl, unlessReset s _ fun hr => goodFrame hr (.control seq tag op first count) True.intro⟩
  | frameBoundary => exact ⟨_, rfl, unlessReset s _ boundary⟩
  | holdoffExpiry n => exact ⟨_, rfl, unlessReset s _ fun hr => holdoffExpiry hr n⟩
  | acknowledgmentTimerExpiry => exact ⟨_, rfl, unlessReset s _ ackTimerExpiry⟩
  | greetingIntervalExpiry => exact ⟨_, rfl, unlessReset s _ greetIntervalExpiry⟩
  | greetTimeout => exact ⟨_, rfl, unlessReset s _ greetTimeoutExpiry⟩
  | restartDelayExpiry => exact ⟨_, rfl, unlessReset s _ restartDelayExpiry⟩

/-- Every step keeps every law: the command at the front of the queue, or the tick of an empty one. -/
theorem step_keeps (s t : State) (h : step s = .next t) : Keeps s t := by
  unfold step at h
  split at h
  next =>
    cases h
    exact Keeps.setNow s _
  next c rest _ =>
    obtain ⟨u, hu, hkeeps⟩ := exec_keeps c (s.popPending rest)
    rw [hu] at h
    cases h
    exact (Keeps.setPending s rest).trans hkeeps

/-- Settles O60: the laws hold together after every step, each kept by the command at the front of the queue. -/
theorem everyStepKeepsTheLawsOfTheDevice : Obligations.EveryStepKeepsTheLawsOfTheDevice :=
  fun s t hs h => (step_keeps s t h).inv hs

end Sys2Proof.Machine
end

section
/-! PROOFS. The items that the transmitter sends (spec/05): the bytes of each, its length in bit times, and the level of
the transmit pair (R76, R88, R91, R94 to R99). -/

namespace Sys2Proof.Machine

/-! ### Characters -/

/-- Every character takes 11 bit times (R88). -/
@[simp] theorem length_charWire (b : Byte) : (charWire b).length = 11 := by simp [charWire]

theorem length_flatMap_charWire (bytes : List Byte) : (bytes.flatMap charWire).length = 11 * bytes.length := by
  simp [List.length_flatMap, Nat.mul_comm]

/-- A frame has six bytes beside its payload (R94). -/
@[simp] theorem length_frameBytes (kind flags : BitVec 4) (n : SeqNum) (payload : List Byte) :
    (frameBytes kind flags n payload).length = 6 + payload.length := by
  simp [frameBytes]
  omega

/-! ### Header bytes (R94, R96) -/

/-- The SEQ byte is the sequence number under two zero bits. -/
theorem seqByte_eq (n : SeqNum) : ((0 : BitVec 2) ++ n : Byte) = n.setWidth 8 := by
  refine BitVec.eq_of_toNat_eq ?_
  rw [BitVec.toNat_append, BitVec.toNat_setWidth_of_le (by decide)]
  simp

/-- The bytes of a frame from its header byte on. -/
theorem frameBytes_eq (kind flags : BitVec 4) (n : SeqNum) (payload : List Byte) :
    frameBytes kind flags n payload =
      (let body := (kind ++ flags : Byte) :: n.setWidth 8 :: BitVec.ofNat 8 payload.length :: payload
      [0xA9#8] ++ body ++ [(crc16 body).extractLsb' 8 8, (crc16 body).extractLsb' 0 8]) := by
  rw [frameBytes, seqByte_eq]
  rfl

theorem helloHeader_eq (heard : Bool) :
    ((0x1 : BitVec 4) ++ ((0 : BitVec 3) ++ bit1 heard) : Byte) = if heard then 0x11#8 else 0x10#8 := by
  cases heard <;> rfl

/-- RESENT, OVERRUN and LEVEL are bits 2 to 0 of the header of an EVENT (R96). -/
theorem eventHeader_eq (m : Message) :
    ((Body.event m).kind ++ (Body.event m).flags : Byte) =
      0x40#8 + (if m.resent then 4 else 0) + (if m.overrun then 2 else 0) + (if m.level then 1 else 0) := by
  rw [Body.kind, Body.flags]
  generalize m.resent = resent, m.overrun = overrun, m.level = level
  revert resent overrun level
  decide

/-- DEST and PRIO share a byte of the payload of an EVENT (R97). -/
theorem destPrioByte_eq (m : Message) :
    (m.dest ++ BitVec.ofNat 4 m.prio.val : Byte) = BitVec.ofNat 8 (m.dest.toNat * 16 + m.prio.val) := by
  refine BitVec.eq_of_toNat_eq ?_
  have hprio : m.prio.val < 2 ^ 4 := by omega
  rw [BitVec.toNat_append, BitVec.toNat_ofNat, Nat.mod_eq_of_lt hprio, ← Nat.shiftLeft_add_eq_or_of_lt hprio,
    Nat.shiftLeft_eq, BitVec.toNat_ofNat, Nat.mod_eq_of_lt (by omega)]

/-! ### Items -/

/-- Every item but a break is sent as the characters of its bytes, back to back (R76). -/
theorem Item.wire_of_ne_brk {i : Item} (h : i ≠ .brk) : i.wire = i.bytes.flatMap charWire := by
  cases i with
  | brk => exact absurd rfl h
  | sync => simp [Item.wire, Item.bytes]
  | hello | ack | nak | sequenced => rfl

theorem Item.bitTimes_of_ne_brk {i : Item} (h : i ≠ .brk) : i.bitTimes = 11 * i.bytes.length := by
  rw [Item.bitTimes, wire_of_ne_brk h, length_flatMap_charWire]

theorem bytes_sequenced_event (n : SeqNum) (m : Message) :
    (Item.sequenced { seq := n, body := .event m }).bytes =
      frameBytes 0x4 (Body.event m).flags n
        [BitVec.ofNat 8 m.source.val, m.vector, BitVec.ofNat 8 (m.dest.toNat * 16 + m.prio.val), m.count] := by
  rw [← destPrioByte_eq]
  rfl

/-- Settles O32: every item but a break is its bytes' characters, and those bytes are one frame around a header. -/
theorem itemsAreSentAsFrames : Obligations.ItemsAreSentAsFrames := by
  refine ⟨rfl, rfl, fun heard window epoch => ?hello, fun n => ?ack, fun n => ?nak, fun n m => ?event,
    fun n k x => ?note, fun n r => ?reply, rfl,
    fun i h => ⟨i.wire_of_ne_brk h, i.bitTimes_of_ne_brk h⟩, fun s h k => s.txLevel_idle h k,
    fun s i h k => ⟨fun hk => ?during, fun hk => ?after⟩, fun r => ?length⟩
  case hello =>
    rw [Item.bytes, frameBytes_eq, helloHeader_eq]
    rfl
  case ack => exact frameBytes_eq 0x2 0 n []
  case nak => exact frameBytes_eq 0x3 0 n []
  case event =>
    rw [bytes_sequenced_event, frameBytes_eq, ← eventHeader_eq]
    rfl
  case note =>
    have hlength : (x.tag :: x.data).length = 1 + x.data.length := Nat.add_comm _ _
    rw [← hlength]
    exact frameBytes_eq 0x5 0 n (x.tag :: x.data)
  case reply =>
    rw [← State.length_payload_reply]
    exact frameBytes_eq 0x6 0 n (Body.reply r).payload
  case during => rw [s.txLevel_item i h, List.getD_eq_getElem _ _ hk]
  case after => rw [s.txLevel_item i h, List.getD_eq_default _ _ hk]
  case length => rw [Item.bitTimes_of_ne_brk (by simp), Item.bytes, FrameRecord.bytes, length_frameBytes]

end Sys2Proof.Machine
end

section
/-! PROOFS. The link state and its timers (spec/06): what every step keeps of them, and the expiries of GREETING and
FAILED (R84, R113, R119). -/

namespace Sys2Proof.Machine

/-- Settles O58: each of the three laws is kept by the command that the step takes. -/
theorem everyStepKeepsTheLinkState : Obligations.EveryStepKeepsTheLinkState :=
  fun s t hcfg hsession htx hassembly h =>
    have hkeeps := step_keeps s t h
    ⟨hkeeps.session hcfg hsession, hkeeps.tx htx, hkeeps.assembly hassembly⟩

/-! ### The commands outside a reset -/

theorem exec_greetingIntervalExpiry (s : State) (h : s.resetting = none) :
    exec .greetingIntervalExpiry s = .next s.greetIntervalExpiry :=
  congrArg _ (s.unlessReset_none State.greetIntervalExpiry h)

theorem exec_greetTimeout (s : State) (h : s.resetting = none) :
    exec .greetTimeout s = .next s.greetTimeoutExpiry :=
  congrArg _ (s.unlessReset_none State.greetTimeoutExpiry h)

theorem exec_restartDelayExpiry (s : State) (h : s.resetting = none) :
    exec .restartDelayExpiry s = .next s.restartDelayExpiry :=
  congrArg _ (s.unlessReset_none State.restartDelayExpiry h)

/-! ### The timers of GREETING and FAILED -/

namespace State

variable {s : State}

theorem SessionLaw.greetTimeout_isSome (h : s.SessionLaw) (hl : s.session.link = .greeting) :
    s.session.greetTimeout.isSome := by
  obtain ⟨hgreet, -⟩ := h
  exact hgreet.2 hl

theorem SessionLaw.greetInterval_isSome (h : s.SessionLaw) (hl : s.session.link = .greeting) :
    s.arbiter.greetInterval.isSome := by
  obtain ⟨-, hinterval, -⟩ := h
  exact hinterval.2 hl

theorem SessionLaw.restartDelay_isSome_iff (h : s.SessionLaw) :
    s.session.restartDelay.isSome ↔ s.session.link = .failed ∧ s.regs.linkCfg.auto = true := by
  obtain ⟨-, -, -, hdelay, -⟩ := h
  exact hdelay

/-- FAILED is entered from GREETING: no session ends (R113, R116). -/
theorem enterFailed_greeting (hl : s.session.link = .greeting) (cause : FaultCause) :
    s.enterFailed cause = State.withCause { s with
      session := { s.failedSession cause with heard := false },
      arbiter := { s.arbiter with helloDue := false, greetInterval := none },
      receiver := { s.receiver with assembly := none }, tx := some .brk } 0x02#8 := by
  rw [enterFailed_eq, leaveLink_greeting hl, recordFault_eq]
  rfl

theorem greetIntervalExpiry_elsewhere (hl : s.session.link ≠ .greeting) : s.greetIntervalExpiry = s :=
  if_neg fun h => hl h.1

theorem greetTimeoutExpiry_elsewhere (hl : s.session.link ≠ .greeting) : s.greetTimeoutExpiry = s :=
  if_neg fun h => hl h.1

/-- SYNC characters begin if the transmitter is idle; an item runs to its end (R84, R86). -/
theorem beginSync_eq_ite (s : State) : s.beginSync = { s with tx := if s.tx = none then some .sync else s.tx } := by
  unfold beginSync
  split
  next => rfl
  next => rfl

/-- FAILED is left for SYNCING without a break (R119). -/
theorem restartDelayExpiry_running (hl : s.session.link = .failed) (hd : s.session.restartDelay.isSome) :
    s.restartDelayExpiry = { s with
      session := { s.session with link := .syncing, syncCount := 0, restartDelay := none },
      receiver := { s.receiver with assembly := none },
      tx := if s.tx = none then some .sync else s.tx } := by
  rw [restartDelayExpiry, if_pos ⟨hl, hd⟩, leaveLink_failed hl, enterSyncing_eq, beginSync_eq_ite]
  rfl

end State

/-- Settles O41, timer by timer: each runs in its own link state alone. -/
theorem greetingAndRestartTimersExpire : Obligations.GreetingAndRestartTimersExpire := by
  intro s hr hsession _
  rw [exec_greetingIntervalExpiry s hr, exec_greetTimeout s hr, exec_restartDelayExpiry s hr]
  refine ⟨fun hl => ⟨?interval, ?timeout⟩, fun hl => ?elsewhere, fun hl hauto => ?restart, fun h => ?stopped⟩
  case interval => rw [State.greetIntervalExpiry, if_pos ⟨hl, hsession.greetInterval_isSome hl⟩]; rfl
  case timeout =>
    rw [State.greetTimeoutExpiry, if_pos ⟨hl, hsession.greetTimeout_isSome hl⟩, State.enterFailed_greeting hl]
  case elsewhere =>
    exact ⟨congrArg _ (State.greetIntervalExpiry_elsewhere hl), congrArg _ (State.greetTimeoutExpiry_elsewhere hl)⟩
  case restart =>
    rw [State.restartDelayExpiry_running hl (hsession.restartDelay_isSome_iff.2 ⟨hl, hauto⟩)]
  case stopped =>
    refine congrArg _ (if_neg fun ⟨hl, hd⟩ => ?_)
    obtain ⟨-, hauto⟩ := hsession.restartDelay_isSome_iff.1 hd
    rcases h with h | h
    · exact h hl
    · exact Bool.false_ne_true (h.symm.trans hauto)

end Sys2Proof.Machine
end

section
/-! PROOFS. A frame boundary (spec/04): what ends, what the Arbiter chooses by link state, and the items due in ACTIVE,
which come before any new frame (R76 to R80, R84, R85, R126). -/

namespace Sys2Proof.Machine

namespace State

variable {s : State}

/-! ### The item that ends (R76, R126) -/

/-- The end of an item may start the acknowledgment timer, and changes nothing else. -/
theorem itemEnded_setWindow (s : State) :
    ∃ timer, s.itemEnded = s.setWindow { s.window with timer := timer } := by
  unfold itemEnded
  split
  next => exact ⟨some s.now, rfl⟩
  next => exact ⟨s.window.timer, rfl⟩

/-- The choice does not look at the acknowledgment timer (R78). -/
theorem choose_itemEnded (s : State) : s.itemEnded.choose = s.choose := by
  obtain ⟨timer, h⟩ := s.itemEnded_setWindow
  rw [h]
  rfl

/-- Outside ACTIVE no sequenced frame is in transmission, and the end of an item changes nothing. -/
theorem TxLaw.itemEnded_eq_self (h : s.TxLaw) (hl : s.session.link ≠ .active) : s.itemEnded = s := by
  unfold itemEnded
  split
  next record _ _ hsent _ _ =>
    rw [TxLaw, hsent] at h
    cases hlink : s.session.link with
    | active => exact absurd hlink hl
    | disabled | syncing | greeting | failed => simp [hlink, Link.mayBeSending] at h
  next => rfl

end State

theorem exec_frameBoundary (s : State) (h : s.resetting = none) :
    exec .frameBoundary s = .next (s.itemEnded.send s.choose) := by
  rw [← s.choose_itemEnded, ← s.boundary_eq]
  exact congrArg _ (s.unlessReset_none State.boundary h)

/-! ### Outside ACTIVE (R84, R85) -/

namespace State

variable {s : State}

theorem choose_syncing (hl : s.session.link = .syncing) : s.choose = .sync := by rw [choose, hl]

theorem choose_greeting (hl : s.session.link = .greeting) :
    s.choose = if s.arbiter.helloDue then .hello else .sync := by rw [choose, hl]

theorem choose_silent (hl : s.session.link = .disabled ∨ s.session.link = .failed) : s.choose = .idle := by
  rcases hl with hl | hl <;> rw [choose, hl]

theorem choose_active (hl : s.session.link = .active) : s.choose = s.chooseActive := by rw [choose, hl]

end State

/-- Settles O52: outside ACTIVE the end of an item changes nothing, and the link state alone chooses. -/
theorem boundaryOutsideASession : Obligations.BoundaryOutsideASession := by
  intro s hr htx
  rw [exec_frameBoundary s hr]
  refine ⟨fun hl => ?syncing, fun hl => ?greeting, fun hl => ?silent⟩
  case syncing =>
    rw [htx.itemEnded_eq_self (by simp [hl]), State.choose_syncing hl]
    rfl
  case greeting =>
    rw [htx.itemEnded_eq_self (by simp [hl]), State.choose_greeting hl]
    split
    next => rfl
    next => rfl
  case silent =>
    rw [htx.itemEnded_eq_self (by rcases hl with hl | hl <;> simp [hl]), State.choose_silent hl]
    rfl

/-! ### The resend point (R80) -/

namespace Window

variable {w : Window}

theorem consecutive.seq_eq (h : w.consecutive) {k : Nat} (hk : k < w.records.length) :
    w.records[k].seq = (w.records[0]'(by omega)).seq + BitVec.ofNat 6 k := by
  rw [consecutive_iff] at h
  have hfirst := h 0 (by omega)
  have hplace := h k hk
  have hsum : BitVec.ofNat 6 (w.records.length - 0) =
      BitVec.ofNat 6 k + BitVec.ofNat 6 (w.records.length - k) := by
    rw [← BitVec.ofNat_add]
    congr 1
    omega
  rw [hsum, ← BitVec.add_assoc, ← hplace] at hfirst
  exact (BitVec.add_left_inj _).1 hfirst.symm

/-- The number after a record's is its successor's place from the oldest, whether or not a record has it. -/
theorem consecutive.seq_add_one (h : w.consecutive) {k : Nat} (hk : k < w.records.length) :
    w.records[k].seq + (1 : SeqNum) = (w.records[0]'(by omega)).seq + BitVec.ofNat 6 (k + 1) := by
  rw [h.seq_eq hk, BitVec.add_assoc, BitVec.ofNat_add]
  rfl

/-- The place of a number is its distance from the oldest record's (R124). -/
theorem offset_add (hw : 0 < w.records.length) {k : Nat} (hk : k < 64) :
    w.offset (w.records[0].seq + BitVec.ofNat 6 k) = k := by
  unfold offset
  split
  next hnil => simp [hnil] at hw
  next r rs hcons =>
    simp only [hcons, List.getElem_cons_zero]
    rw [BitVec.add_comm, BitVec.add_sub_cancel, BitVec.toNat_ofNat, Nat.mod_eq_of_lt hk]

theorem consecutive.offset_seq (h : w.consecutive) (hlength : w.records.length < 64) {k : Nat}
    (hk : k < w.records.length) : w.offset w.records[k].seq = k := by
  rw [h.seq_eq hk, offset_add (by omega) (by omega)]

/-- The records have different numbers, so a number names one record. -/
theorem consecutive.record_seq (h : w.consecutive) (hlength : w.records.length < 64) {k : Nat}
    (hk : k < w.records.length) : w.record w.records[k].seq = some w.records[k] := by
  refine List.find?_eq_some_iff_getElem.2 ⟨by simp, k, hk, rfl, fun j hj => ?_⟩
  have hne : w.records[j].seq ≠ w.records[k].seq := fun heq => by
    have hplaces := congrArg w.offset heq
    rw [h.offset_seq hlength, h.offset_seq hlength] at hplaces
    omega
  simpa using hne

/-- After a record the resend point names the next newer one, or nothing after the newest. -/
theorem consecutive.newer_seq (h : w.consecutive) (hlength : w.records.length < 64) {k : Nat}
    (hk : k < w.records.length) : w.newer w.records[k].seq = w.records[k + 1]?.map (·.seq) := by
  have hplace : w.offset (w.records[k].seq + 1) = k + 1 := by
    rw [h.seq_add_one hk, offset_add (by omega) (by omega)]
  unfold newer holds
  rw [hplace]
  by_cases hnext : k + 1 < w.records.length
  · have hseq : w.records[k + 1].seq = w.records[k].seq + (1 : SeqNum) := by
      rw [h.seq_eq hnext, h.seq_add_one hk]
    simp [hnext, hseq]
  · simp [hnext]

end Window

namespace State

variable {s : State}

/-- The Window holds at most 15 records, fewer than there are sequence numbers. -/
theorem WindowLaw.length_lt (h : s.WindowLaw) : s.window.records.length < 64 := by
  obtain ⟨-, hlength, -⟩ := h
  omega

/-! ### What is due in ACTIVE (R78, steps 1 to 4) -/

theorem chooseActive_finalHello (hf : s.arbiter.finalHelloDue = true) : s.chooseActive = .finalHello := if_pos hf

theorem chooseActive_nak (hf : s.arbiter.finalHelloDue = false) {n : SeqNum} (hn : s.arbiter.nakDue = some n) :
    s.chooseActive = .nak n := by simp [chooseActive, hf, hn]

theorem chooseActive_ack (hf : s.arbiter.finalHelloDue = false) (hnak : s.arbiter.nakDue = none) {n : SeqNum}
    (hn : s.arbiter.ackDue = some n) : s.chooseActive = .ack n := by simp [chooseActive, hf, hnak, hn]

theorem chooseActive_resend (hf : s.arbiter.finalHelloDue = false) (hnak : s.arbiter.nakDue = none)
    (hack : s.arbiter.ackDue = none) {r : FrameRecord} (hr : s.resendRecord = some r) :
    s.chooseActive = .resend r := by simp [chooseActive, hf, hnak, hack, hr]

theorem chooseActive_grant (hf : s.arbiter.finalHelloDue = false) (hnak : s.arbiter.nakDue = none)
    (hack : s.arbiter.ackDue = none) (hr : s.arbiter.resend = none) : s.chooseActive = s.chooseGrant := by
  simp [chooseActive, hf, hnak, hack, resendRecord, hr]

end State

/-- Settles O53, in the order of R78; the resend point is found and moved by the consecutive numbers of the Window. -/
theorem boundarySendsDueItemsFirst : Obligations.BoundarySendsDueItemsFirst := by
  intro s hr hl hs
  obtain ⟨timer, hended⟩ := s.itemEnded_setWindow
  rw [exec_frameBoundary s hr, State.choose_active hl]
  refine ⟨fun hf => ?final, fun hf => ⟨fun n hn => ?nak, fun hnak =>
    ⟨fun n hn => ?ack, fun hack k hk hp => ?resend⟩⟩⟩
  case final => rw [State.chooseActive_finalHello hf, hended]; rfl
  case nak => rw [State.chooseActive_nak hf hn, hended]; rfl
  case ack => rw [State.chooseActive_ack hf hnak hn, hended]; rfl
  case resend =>
    have hlength := hs.window.length_lt
    obtain ⟨hconsecutive, -⟩ := hs.window
    have hrecord : s.resendRecord = some s.window.records[k] := by
      rw [State.resendRecord, hp]
      exact hconsecutive.record_seq hlength hk
    rw [State.chooseActive_resend hf hnak hack hrecord, ← hconsecutive.newer_seq hlength hk, hended]
    rfl

end Sys2Proof.Machine
end

section
/-! PROOFS. The grant of a new frame in ACTIVE (spec/04): which candidate is chosen, by class and turn bit, and what its
grant makes of the state (R69, R78, R81, R82, R125, R161). -/

namespace Sys2Proof.Machine

/-! ### The head of the Event Queue (R69, R73) -/

/-- The head stands first in the highest class that is not empty, and dropping it leaves the others of its class. -/
theorem EventQueue.head_of_class {q : EventQueue} {c : Fin 4} {m : Message} {ms : List Message}
    (h : q[c.val] = m :: ms) (habove : ∀ d : Fin 4, c < d → q[d.val] = []) :
    q.messages.head? = some m ∧ q.dropHead = q.set c.val ms := by
  unfold messages dropHead
  match c, h, habove with
  | 3, h, _ =>
    have h3 : q[3] = m :: ms := h
    simp [h3]
  | 2, h, habove =>
    have h3 : q[3] = [] := habove 3 (by decide)
    have h2 : q[2] = m :: ms := h
    simp [h3, h2]
  | 1, h, habove =>
    have h3 : q[3] = [] := habove 3 (by decide)
    have h2 : q[2] = [] := habove 2 (by decide)
    have h1 : q[1] = m :: ms := h
    simp [h3, h2, h1]
  | 0, h, habove =>
    have h3 : q[3] = [] := habove 3 (by decide)
    have h2 : q[2] = [] := habove 2 (by decide)
    have h1 : q[1] = [] := habove 1 (by decide)
    have h0 : q[0] = m :: ms := h
    simp [h3, h2, h1, h0]

/-- A head in class 3 has no class above it. -/
theorem EventQueue.head_of_urgent {q : EventQueue} {m : Message} {ms : List Message} (h : q[3] = m :: ms) :
    q.messages.head? = some m ∧ q.dropHead = q.set 3 ms :=
  head_of_class (c := 3) h fun d hd => absurd hd (by omega)

namespace State

variable {s : State}

/-! ### The oldest note (R158) -/

theorem oldestWaiting_nil {u : NoteUnit} (h : u.order = []) : u.oldestWaiting = none := by
  rw [NoteUnit.oldestWaiting, h]

theorem oldestWaiting_cons {u : NoteUnit} {k : SlotId} {ks : List SlotId} {x : Note} (horder : u.order = k :: ks)
    (hslot : u.slots[k.val] = .waiting x) : u.oldestWaiting = some (k, x) := by
  simp [NoteUnit.oldestWaiting, horder, hslot]

/-- The waiting order begins with a WAITING slot. -/
theorem SlotLaw.exists_oldestWaiting (h : s.SlotLaw) (horder : s.notes.order ≠ []) :
    ∃ k x, s.notes.oldestWaiting = some (k, x) := by
  obtain ⟨-, -, hwaiting, -⟩ := h
  obtain ⟨k, ks, hcons⟩ := List.exists_cons_of_ne_nil horder
  have hslot := (hwaiting k).1 (by simp [hcons])
  cases hx : s.notes.slots[k.val] with
  | waiting x => exact ⟨k, x, oldestWaiting_cons hcons hx⟩
  | free | inFlight => simp [hx, Slot.isWaiting] at hslot

/-! ### The candidate chosen (R78, steps 5 and 6; R82) -/

theorem chooseGrant_full (h : s.window.records.length = s.session.agreed.toNat) : s.chooseGrant = .idle :=
  if_neg (by omega)

theorem chooseGrant_reply (hroom : s.window.records.length < s.session.agreed.toNat) {r : Reply} {rs : List Reply}
    (h : s.replies = r :: rs) : s.chooseGrant = .reply r := by
  rw [chooseGrant, if_pos hroom, h]

theorem chooseGrant_urgent (hroom : s.window.records.length < s.session.agreed.toNat) (hreplies : s.replies = [])
    {m : Message} {ms : List Message} (h : s.queue[3] = m :: ms) : s.chooseGrant = .event m := by
  rw [chooseGrant, if_pos hroom, hreplies]
  simp only [h]

theorem chooseGrant_shared (hroom : s.window.records.length < s.session.agreed.toNat) (hreplies : s.replies = [])
    (h : s.queue[3] = []) : s.chooseGrant = s.chooseShared := by
  rw [chooseGrant, if_pos hroom, hreplies]
  simp only [h]

theorem chooseShared_none (hnote : s.notes.oldestWaiting = none) (hevent : s.queueHead = none) :
    s.chooseShared = .idle := by simp [chooseShared, hnote, hevent]

theorem chooseShared_note {k : SlotId} {x : Note} (hnote : s.notes.oldestWaiting = some (k, x))
    (h : s.queueHead = none ∨ s.arbiter.turn = .note) : s.chooseShared = .note k x := by
  cases hhead : s.queueHead with
  | none => simp [chooseShared, hnote, hhead]
  | some m =>
    have hturn := h.resolve_left (by simp [hhead])
    simp [chooseShared, hnote, hhead, hturn]

theorem chooseShared_event {m : Message} (hevent : s.queueHead = some m)
    (h : s.notes.oldestWaiting = none ∨ s.arbiter.turn = .event) : s.chooseShared = .event m := by
  cases hnote : s.notes.oldestWaiting with
  | none => simp [chooseShared, hnote, hevent]
  | some p =>
    have hturn := h.resolve_left (by simp [hnote])
    simp [chooseShared, hnote, hevent, hturn]

/-! ### What a grant makes of the state (R47, R81, R82, R161) -/

/-- The turn bit names the other after a contest, and stays as it is after none (R82). -/
def turnAfter (s : State) : Turn := if s.contested then s.arbiter.turn.other else s.arbiter.turn

theorem passTurn_contested (s t : State) (h : t.arbiter = s.arbiter) :
    t.passTurn s.contested = { t with arbiter := { s.arbiter with turn := s.turnAfter } } := by
  unfold passTurn turnAfter
  rw [h]
  split
  next => rfl
  next => rw [← h]

theorem send_reply {r : Reply} {rs : List Reply} (h : s.replies = r :: rs) :
    s.send (.reply r) = { s.granted (.reply r) with replies := rs } := by
  rw [send, h]
  rfl

theorem send_event (s : State) (m : Message) :
    s.send (.event m) = { s.granted (.event m) with
      queue := s.queue.dropHead,
      sources := s.sources.set m.source.val { s.src m.source with state := .sent } m.source.isLt,
      arbiter := { s.arbiter with turn := s.turnAfter },
      regs := { s.regs with stats := { s.regs.stats with
        eventsSent := saturate32 s.regs.stats.eventsSent 1 } } } := by
  have hturn := passTurn_contested s (s.grantEvent m) rfl
  rw [send, hturn]
  rfl

theorem send_note (s : State) (k : SlotId) (x : Note) :
    s.send (.note k x) = { s.granted (.note k x) with
      notes := { s.notes with
        slots := s.notes.slots.set k.val (.inFlight x) k.isLt, order := s.notes.order.tail },
      arbiter := { s.arbiter with turn := s.turnAfter } } := by
  have hturn := passTurn_contested s (s.grantNote k x) rfl
  rw [send, hturn]
  rfl

theorem turnAfter_contest {m : Message} {p : SlotId × Note} (hnote : s.notes.oldestWaiting = some p)
    (hevent : s.queueHead = some m) (hurgent : s.queue[3] = []) : s.turnAfter = s.arbiter.turn.other :=
  if_pos (by simp [contested, hnote, hevent, hurgent])

theorem turnAfter_alone (h : s.notes.oldestWaiting = none ∨ s.queueHead = none ∨ s.queue[3] ≠ []) :
    s.turnAfter = s.arbiter.turn :=
  if_neg (by rcases h with h | h | h <;> simp [contested, h])

theorem turnAfter_itemEnded (s : State) : s.itemEnded.turnAfter = s.turnAfter := by
  obtain ⟨timer, h⟩ := s.itemEnded_setWindow
  rw [h]
  rfl

end State

/-- Settles O54, candidate by candidate in the order of R78; the turn bit decides a contest of a note and an event,
and changes by it alone. -/
theorem boundaryGrantsOneNewFrame : Obligations.BoundaryGrantsOneNewFrame := by
  intro s hr hl hs hf hnak hack hresend u event noted
  obtain ⟨timer, hended⟩ := s.itemEnded_setWindow
  have hsend : exec .frameBoundary s = .next (u.send s.chooseGrant) := by
    rw [exec_frameBoundary s hr, State.choose_active hl, State.chooseActive_grant hf hnak hack hresend]
  have hgrantEvent {c : Fin 4} {m : Message} {ms : List Message} (hq : s.queue.dropHead = s.queue.set c.val ms c.isLt) :
      u.send (.event m) = event c m ms s.turnAfter := by
    rw [State.send_event, State.turnAfter_itemEnded]
    simp only [event, u, hended, ← hq]
    rfl
  have hgrantNote (k : SlotId) (x : Note) : u.send (.note k x) = noted k x s.turnAfter := by
    rw [State.send_note, State.turnAfter_itemEnded]
    simp only [noted, u, hended]
    rfl
  rw [hsend]
  refine ⟨fun hfull => ?full, fun hroom => ⟨fun r rs hreplies => ?reply, fun hreplies =>
    ⟨fun m ms hm => ?urgent, fun hurgent => ⟨fun hnotes hempty => ?nothing,
      fun k ks x horder hslot => ⟨fun hempty => ?note, fun hwait hturn => ?noteTurn⟩,
      fun c m ms hm habove => ⟨fun hnotes => ?event, fun hnotes hturn => ?eventTurn⟩⟩⟩⟩⟩
  case full => rw [State.chooseGrant_full hfull]; rfl
  case reply =>
    have hreplies' : u.replies = r :: rs := by simp only [u, hended, State.setWindow_replies, hreplies]
    rw [State.chooseGrant_reply hroom hreplies, State.send_reply hreplies']
  case urgent =>
    obtain ⟨-, hdrop⟩ := EventQueue.head_of_urgent hm
    rw [State.chooseGrant_urgent hroom hreplies hm, hgrantEvent (c := 3) hdrop,
      State.turnAfter_alone (.inr (.inr (by simp [hm])))]
  all_goals rw [State.chooseGrant_shared hroom hreplies hurgent]
  case nothing =>
    have hevent : s.queueHead = none := by simp [State.queueHead, hempty]
    rw [State.chooseShared_none (State.oldestWaiting_nil hnotes) hevent]
    rfl
  case note =>
    have hevent : s.queueHead = none := by simp [State.queueHead, hempty]
    rw [State.chooseShared_note (State.oldestWaiting_cons horder hslot) (.inl hevent), hgrantNote,
      State.turnAfter_alone (.inr (.inl hevent))]
  case noteTurn =>
    obtain ⟨m, ms, hcons⟩ := List.exists_cons_of_ne_nil hwait
    have hevent : s.queueHead = some m := by simp [State.queueHead, hcons]
    have hnote := State.oldestWaiting_cons horder hslot
    rw [State.chooseShared_note hnote (.inr hturn), hgrantNote, State.turnAfter_contest hnote hevent hurgent, hturn]
    rfl
  case event =>
    obtain ⟨hhead, hdrop⟩ := EventQueue.head_of_class hm habove
    have hnote := State.oldestWaiting_nil hnotes
    rw [State.chooseShared_event hhead (.inl hnote), hgrantEvent hdrop, State.turnAfter_alone (.inl hnote)]
  case eventTurn =>
    obtain ⟨hhead, hdrop⟩ := EventQueue.head_of_class hm habove
    obtain ⟨k, x, hnote⟩ := hs.slot.exists_oldestWaiting hnotes
    rw [State.chooseShared_event hhead (.inr hturn), hgrantEvent hdrop,
      State.turnAfter_contest hnote hhead hurgent, hturn]
    rfl

end Sys2Proof.Machine
end

section
/-! PROOFS. Characters and the CRC (spec/05): the bit times of a character, which received characters are good, and the
CRC register over bytes that have their own CRC behind them (R88, R90, R95). -/

namespace Sys2Proof.Machine

/-! ### Characters (R88, R90) -/

/-- The parity bit of a byte is the exclusive or of its bits. -/
theorem parityBit_eq (b : Byte) : parityBit b = ((List.range 8).map fun i => b.getLsbD i).foldl xor false := by
  rw [parityBit, List.foldl_map]

/-- Bits with their exclusive or behind them hold an even number of ones. -/
theorem count_true_append_xor (bits : List Bool) (p : Bool) :
    (bits ++ [bits.foldl xor p]).count true % 2 = p.toNat := by
  induction bits generalizing p with
  | nil => cases p <;> rfl
  | cons x bits ih =>
    have hrest := ih (p ^^ x)
    rw [List.cons_append, List.foldl_cons, List.count_cons]
    cases x <;> cases p <;> simp at hrest ⊢ <;> omega

theorem charWire_body (b : Byte) :
    ((charWire b).drop 1).take 9 = ((List.range 8).map fun i => b.getLsbD i) ++ [parityBit b] := rfl

theorem charWire_even (b : Byte) : (((charWire b).drop 1).take 9).count true % 2 = 0 := by
  rw [charWire_body, parityBit_eq, count_true_append_xor, Bool.toNat_false]

theorem charWire_data (b : Byte) (i : Fin 8) : (charWire b)[i.val + 1]? = some (b.getLsbD i.val) := by
  have hdata : i.val < ((List.range 8).map fun i => b.getLsbD i).length := by simp
  rw [charWire, List.cons_append, List.getElem?_cons_succ, List.getElem?_append_left hdata, List.getElem?_map,
    List.getElem?_range i.isLt]
  rfl

/-- A character's bit times, with another bit in the place of its parity, are its own exactly when that bit agrees. -/
theorem charWire_eq_iff (b : Byte) (p : Bool) :
    charWire b = [false] ++ (List.finRange 8).map (fun i => b.getLsbD i.val) ++ [p, true] ↔ p = parityBit b := by
  have hbits : ((List.finRange 8).map fun i => b.getLsbD i.val) = (List.range 8).map fun i => b.getLsbD i := rfl
  rw [charWire, hbits]
  simp [eq_comm]

theorem charValue_eq_some_iff (c : RxChar) (v : Byte) :
    charValue c = some v ↔ c.data = v ∧ c.stop = true ∧ c.parity = parityBit c.data := by
  unfold charValue
  cases c.stop <;> simp [and_comm]

@[simp] theorem charValue_goodChar (b : Byte) : charValue (goodChar b) = some b :=
  (charValue_eq_some_iff _ _).2 ⟨rfl, rfl, rfl⟩

/-! ### The CRC (R95) -/

theorem crc16_append_singleton (bytes : List Byte) (b : Byte) :
    crc16 (bytes ++ [b]) = crcByte (crc16 bytes) b := by
  rw [crc16, List.foldl_append]
  rfl

/-- While the bits that leave the register are 0, its steps are shifts. -/
theorem foldl_crcBit_of_high_zero (k : Nat) (r : BitVec 16) (h : ∀ i, 16 - k ≤ i → r.getLsbD i = false) :
    (List.range k).foldl (fun r _ => crcBit r) r = r <<< k := by
  induction k with
  | zero => simp
  | succ k ih =>
    have hout : (r <<< k).getLsbD 15 = false := by
      rw [BitVec.getLsbD_shiftLeft, h (15 - k) (by omega), Bool.and_false]
    rw [List.range_succ, List.foldl_append, ih fun i hi => h i (by omega), List.foldl_cons, List.foldl_nil,
      crcBit, hout, if_neg Bool.false_ne_true, ← BitVec.shiftLeft_add]

/-- The register with its own high byte added has its low byte alone. -/
theorem xor_high_getLsbD (r : BitVec 16) (i : Nat) :
    (r ^^^ (r.extractLsb' 8 8 ++ (0 : BitVec 8))).getLsbD i = (decide (i < 8) && r.getLsbD i) := by
  rw [BitVec.getLsbD_xor, BitVec.getLsbD_append, BitVec.getLsbD_extractLsb']
  by_cases hlow : i < 8
  · simp [hlow]
  · by_cases hi : i < 16
    · have hbyte : i - 8 < 8 := by omega
      simp [hlow, hbyte, Nat.add_sub_cancel' (Nat.le_of_not_lt hlow)]
    · have hout : r.getLsbD i = false := BitVec.getLsbD_of_ge r i (Nat.le_of_not_lt hi)
      have hbyte : ¬i - 8 < 8 := by omega
      simp [hlow, hbyte, hout]

/-- The register takes its own high byte: its low byte moves up. -/
theorem crcByte_high (r : BitVec 16) :
    crcByte r (r.extractLsb' 8 8) = r.extractLsb' 0 8 ++ (0 : BitVec 8) := by
  rw [crcByte, foldl_crcBit_of_high_zero 8 _ fun i hi => by
    rw [xor_high_getLsbD, decide_eq_false (Nat.not_lt.2 hi), Bool.false_and]]
  refine BitVec.eq_of_getLsbD_eq fun i hi => ?_
  rw [BitVec.getLsbD_shiftLeft, xor_high_getLsbD, BitVec.getLsbD_append, BitVec.getLsbD_extractLsb']
  by_cases hlow : i < 8
  · simp [hlow]
  · have hbyte : i - 8 < 8 := by omega
    simp [hlow, hbyte, hi]

/-- The register takes the byte that its high byte holds alone: nothing is left. -/
theorem crcByte_self (b : Byte) : crcByte (b ++ (0 : BitVec 8)) b = 0 := by
  rw [crcByte, BitVec.xor_self, foldl_crcBit_of_high_zero 8 _ fun _ _ => BitVec.getLsbD_zero, BitVec.zero_shiftLeft]
  rfl

/-- Bytes with their own CRC behind them, high byte first, leave a register of 0. -/
theorem crc16_append_crc (bytes : List Byte) :
    crc16 (bytes ++ [(crc16 bytes).extractLsb' 8 8, (crc16 bytes).extractLsb' 0 8]) = 0 := by
  rw [List.append_cons, crc16_append_singleton, crc16_append_singleton, crcByte_high, crcByte_self]

/-- Settles O31: the parity bit makes the ones even, and the CRC of a register over its own two bytes is 0. -/
theorem charactersAndCrc : Obligations.CharactersAndCrc := by
  refine ⟨fun b => ⟨length_charWire b, rfl, charWire_data b, charWire_even b, rfl⟩, by decide, by decide,
    fun c v => ?_, charValue_goodChar, rfl, crc16_append_singleton, by decide +kernel, crc16_append_crc⟩
  rw [charValue_eq_some_iff, charWire_eq_iff]

end Sys2Proof.Machine
end

section
/-! PROOFS. Good and bad frames by link state (spec/05): what the arrival of a frame makes of the state, whether it
comes as a command or ends by a gap between characters (R101 to R105). -/

namespace Sys2Proof.Machine

/-- s with frame assembly in HUNT. -/
def State.inHunt (s : State) : State := s.setReceiver { s.receiver with assembly := none }

/-! ### The commands outside a reset -/

theorem exec_character (s : State) (c : RxChar) (h : s.resetting = none) :
    exec (.character c) s = .next (s.takeCharacter (charValue c)) :=
  congrArg _ (s.unlessReset_none (fun s => s.takeCharacter (charValue c)) h)

theorem exec_characterGap (s : State) (h : s.resetting = none) :
    exec .characterGap s = .next (if s.receiver.assembly.isSome then s.badFrame else s) :=
  congrArg _ (s.unlessReset_none (fun s => if s.receiver.assembly.isSome then s.badFrame else s) h)

theorem exec_lineBreak (s : State) (h : s.resetting = none) :
    exec .lineBreak s = .next s.inHunt.takeBreak :=
  congrArg _ (s.unlessReset_none (fun s => s.inHunt.takeBreak) h)

theorem noteLengthOk_iff (data : List Byte) : noteLengthOk data = true ↔ 1 ≤ data.length ∧ data.length ≤ 8 := by
  rw [noteLengthOk, Bool.and_eq_true, decide_eq_true_eq, decide_eq_true_eq]

theorem exec_note (s : State) (n : SeqNum) (tag : Byte) (data : List Byte) (h : s.resetting = none) :
    exec (.note n tag data) s = .next
      (if 1 ≤ data.length ∧ data.length ≤ 8 then s.goodFrame (.note n tag data) else s.badFrame) :=
  congrArg _ (s.unlessReset_none
    (fun s => if 1 ≤ data.length ∧ data.length ≤ 8 then s.goodFrame (.note n tag data) else s.badFrame) h)

/-- A frame command is the arrival of its frame (R104). -/
theorem exec_frame (s : State) (f : RxFrame) (h : s.resetting = none) (hf : f.command.wellFormed = true) :
    exec f.command s = .next (s.goodFrame f) := by
  cases f with
  | hello | ack | nak | complete | control => exact congrArg _ (s.unlessReset_none _ h)
  | note n tag data => exact (exec_note s n tag data h).trans (by rw [if_pos ((noteLengthOk_iff data).1 hf)])

namespace State

variable {s : State}

/-! ### Good frames (R104, R105) -/

/-- No frame is taken in DISABLED, SYNCING and FAILED (assumption log 1). -/
theorem goodFrame_elsewhere (hl : s.session.link ≠ .greeting ∧ s.session.link ≠ .active) (f : RxFrame) :
    s.goodFrame f = s := by
  unfold goodFrame
  cases h : s.session.link with
  | disabled | syncing | failed => rfl
  | greeting => exact absurd h hl.1
  | active => exact absurd h hl.2

theorem goodFrame_greeting (hl : s.session.link = .greeting) (f : RxFrame) :
    s.goodFrame f = s.inHunt.greetingFrame f := by
  rw [goodFrame, hl]
  rfl

theorem goodFrame_active (hl : s.session.link = .active) (f : RxFrame) :
    s.goodFrame f = s.goodTaken.activeFrame f := by
  rw [goodFrame, hl]
  rfl

theorem greetingFrame_other (f : RxFrame) (hf : ∀ h r w e p, f ≠ .hello h r w e p) : s.greetingFrame f = s := by
  cases f with
  | hello h r w e p => exact absurd rfl (hf h r w e p)
  | ack | nak | complete | note | control => rfl

theorem classify_self (e : SeqNum) : classify e e = .expected := by rw [classify_eq, if_pos rfl]

/-- The expected frame, offered to a consumer that has room, is consumed and accepted (R139, R140). -/
theorem sequenced_expected (s : State) (consume : State → State) :
    s.sequenced s.receiver.expected true consume = (consume s).acceptSequenced s.receiver.expected := by
  rw [sequenced, classify_self]
  rfl

/-! ### Bad frames (R103, R105) -/

/-- s with a frame ended as bad: assembly back in HUNT and BAD_FRAMES one higher, the consecutive count at a value. -/
def badCounted (s : State) (run : Nat) : State :=
  { s with
    receiver := { s.receiver with assembly := none, badRun := run }
    regs := { s.regs with stats := { s.regs.stats with badFrames := saturate32 s.regs.stats.badFrames 1 } } }

theorem badFrame_greeting (hl : s.session.link = .greeting) : s.badFrame = s.badCounted s.receiver.badRun := by
  rw [badFrame, hl]
  rfl

theorem badFrame_active (hl : s.session.link = .active) :
    s.badFrame = if 8 ≤ s.receiver.badRun + 1 then (s.badCounted (s.receiver.badRun + 1)).enterFailed .lineErrors
      else s.badCounted (s.receiver.badRun + 1) := by
  rw [badFrame, hl]
  rfl

end State

/-- Settles O40: outside a session a good frame other than a HELLO in GREETING meets no consumer. -/
theorem goodFramesOutsideASessionAreDiscarded : Obligations.GoodFramesOutsideASessionAreDiscarded := by
  intro s f hr hf
  rw [exec_frame s f hr hf]
  refine ⟨fun hl => congrArg _ (State.goodFrame_elsewhere ?_ f), fun hl hother => ?_⟩
  · rcases hl with hl | hl | hl <;> simp [hl]
  · rw [State.goodFrame_greeting hl, State.greetingFrame_other f hother]
    rfl

/-- Settles O48: an expected NOTE with room is consumed and accepted, and another length is a bad frame. -/
theorem noteIsAppendedToTheFifo : Obligations.NoteIsAppendedToTheFifo := by
  intro s tag data hr hl
  refine ⟨fun hlow hhigh hroom => ?appended, fun hlength hrun n => ?bad⟩
  case appended =>
    have hfits : decide (s.goodTaken.notes.fifo.length < Config.fifoSize) = true := decide_eq_true hroom
    rw [exec_note s _ tag data hr, if_pos ⟨hlow, hhigh⟩, State.goodFrame_active hl, State.activeFrame, hfits]
    exact congrArg _ (s.goodTaken.sequenced_expected fun t => t.takeNote tag data)
  case bad =>
    rw [exec_note s n tag data hr, if_neg (by omega), State.badFrame_active hl, if_neg (by omega)]
    rfl

end Sys2Proof.Machine
end

section
/-! PROOFS. Frame assembly character by character (spec/05): one step of it for each place in a frame, the judging of the
frame that its last character completes, and the run of a whole good frame (R100, R101, R103, R104). -/

namespace Sys2Proof.Machine

/-! ### The judging of a complete frame (R96, R103) -/

/-- Bits 7 and 6 of SEQ are 0 exactly when it holds a sequence number. -/
theorem seqBits_iff (sq : Byte) : sq.getLsbD 7 = false ∧ sq.getLsbD 6 = false ↔ sq.toNat < 64 := by
  constructor
  · rintro ⟨h7, h6⟩
    refine Nat.lt_pow_two_of_testBit (n := 6) sq.toNat fun i hi => ?_
    rw [BitVec.testBit_toNat]
    by_cases hout : 8 ≤ i
    · exact BitVec.getLsbD_of_ge sq i hout
    · obtain rfl | rfl : i = 6 ∨ i = 7 := by omega
      exacts [h6, h7]
  · intro h
    exact ⟨Nat.testBit_lt_two_pow (h.trans (by decide)), Nat.testBit_lt_two_pow h⟩

/-- The two CRC bytes of a frame are its CRC, high byte first. -/
theorem crcBytes_iff (r : BitVec 16) (hi lo : Byte) :
    [hi, lo] = [r.extractLsb' 8 8, r.extractLsb' 0 8] ↔ r = hi ++ lo := by
  have hr : r.extractLsb' 8 8 ++ r.extractLsb' 0 8 = r :=
    (BitVec.extractLsb'_append_extractLsb'_eq_extractLsb' rfl).trans BitVec.extractLsb'_eq_self
  constructor
  · intro h
    obtain ⟨rfl, rfl⟩ : hi = _ ∧ lo = _ := by simpa using h
    exact hr.symm
  · rintro rfl
    rw [BitVec.extractLsb'_append_eq_left, BitVec.extractLsb'_append_eq_right]

/-- A frame with the number of bytes that its LEN asks for, by the items of R103. -/
theorem readFrame_complete {hdr sq ln hi lo : Byte} {payload : List Byte} (hlen : payload.length = ln.toNat) :
    readFrame (hdr :: sq :: ln :: (payload ++ [hi, lo])) =
      if ln.toNat ≤ 27 ∧ crc16 (hdr :: sq :: ln :: payload) = hi ++ lo ∧ sq.toNat < 64 then
        readKind hdr (sq.extractLsb' 0 6) payload
      else none := by
  unfold readFrame
  simp only [← hlen, List.take_left, List.drop_left, List.length_append, crcBytes_iff, seqBits_iff]
  exact if_congr (by simp [Config.maxPayload]) rfl rfl

/-- The payload lengths of the kinds that the device accepts (R96). -/
def acceptsLength (kind len : Nat) : Prop :=
  (kind = 1 ∧ len = 4) ∨ (kind = 2 ∧ len = 0) ∨ (kind = 3 ∧ len = 0) ∨ (kind = 5 ∧ 2 ≤ len ∧ len ≤ 9) ∨
    (kind = 8 ∧ len = 1) ∨ (kind = 9 ∧ len = 4)

theorem acceptsLength_of_readKind {hdr : Byte} {n : SeqNum} {payload : List Byte} {f : RxFrame}
    (h : readKind hdr n payload = some f) : acceptsLength (hdr.extractLsb' 4 4).toNat payload.length := by
  unfold readKind at h
  generalize (hdr.extractLsb' 4 4).toNat = kind at h ⊢
  match kind with
  | 5 =>
    cases payload with
    | nil => cases h
    | cons tag data =>
      obtain ⟨hlength, -⟩ := Option.ite_none_right_eq_some.1 h
      rw [acceptsLength, List.length_cons]
      omega
  | 0 | 1 | 2 | 3 | 4 | 6 | 7 | 8 | 9 | _ + 10 =>
    rcases payload with _ | ⟨_, _ | ⟨_, _ | ⟨_, _ | ⟨_, _ | _⟩⟩⟩⟩ <;> cases h <;> simp [acceptsLength]

theorem judge_of_error {c : Collecting} (h : c.errorMark = true) : judge c = none := if_pos h

theorem judge_of_good {c : Collecting} (h : c.errorMark = false) : judge c = readFrame c.bytes := by
  rw [judge, h, if_neg Bool.false_ne_true]

/-- A frame is complete with its last CRC byte, six characters and its payload long (R100). -/
theorem Collecting.add_complete_iff {a : Collecting} {l : Nat} (hlen : a.len = some l) (v : Option Byte) :
    ((a.add v).len = some ((a.add v).received - 6) ∧ 6 ≤ (a.add v).received) ↔ a.received + 1 = 6 + l := by
  simp only [add, hlen, Option.some.injEq]
  omega

/-! ### One character in GREETING and ACTIVE (R93, R100, R101) -/

namespace State

variable {s : State} {a : Collecting} {l : Nat}

theorem takeCharacter_ignored (h : s.session.link = .disabled ∨ s.session.link = .failed) (v : Option Byte) :
    s.takeCharacter v = s := by
  rcases h with h | h <;> rw [takeCharacter, h]

theorem takeCharacter_hunt (h : s.session.link = .greeting ∨ s.session.link = .active)
    (ha : s.receiver.assembly = none) (v : Option Byte) :
    s.takeCharacter v = if v = some Config.sofChar then
      s.setReceiver { s.receiver with assembly := some Collecting.start } else s := by
  rcases h with h | h <;> simp only [takeCharacter, h, assemble, ha]

theorem takeCharacter_collect (h : s.session.link = .greeting ∨ s.session.link = .active)
    (ha : s.receiver.assembly = some a) (v : Option Byte) : s.takeCharacter v = s.collect a v := by
  rcases h with h | h <;> simp only [takeCharacter, h, assemble, ha]

/-- s with a frame in COLLECT. -/
def receiving (s : State) (a : Collecting) : State := s.setReceiver { s.receiver with assembly := some a }

/-- HDR and SEQ. -/
theorem collect_header (hplace : a.received < 3) (hlen : a.len = none) (v : Option Byte) :
    s.collect a v = s.receiving (a.add v) := by
  have hopen : ¬((a.add v).len = some ((a.add v).received - 6) ∧ 6 ≤ (a.add v).received) := by
    simp [Collecting.add, hlen]
  unfold collect
  dsimp only
  rw [if_neg (by omega), if_neg hopen]
  rfl

/-- LEN, a good byte of at most 27. -/
theorem collect_len (hplace : a.received = 3) {b : Byte} (hb : b.toNat ≤ 27) :
    s.collect a (some b) = s.receiving { a.add (some b) with len := some b.toNat } := by
  unfold collect
  dsimp only
  rw [if_pos hplace]
  exact if_pos hb

/-- LEN in error, or above 27: the frame is bad (R101). -/
theorem collect_len_bad (hplace : a.received = 3) {v : Option Byte} (hv : ∀ b, v = some b → 28 ≤ b.toNat) :
    s.collect a v = s.badFrame := by
  unfold collect
  dsimp only
  rw [if_pos hplace]
  cases v with
  | none => rfl
  | some b => exact if_neg (Nat.not_le.2 (hv b rfl))

/-- A character behind LEN that is not the last. -/
theorem collect_body (hplace : 4 ≤ a.received) (hlen : a.len = some l) (hmore : a.received + 1 < 6 + l)
    (v : Option Byte) : s.collect a v = s.receiving (a.add v) := by
  unfold collect
  dsimp only
  rw [if_neg (by omega), if_neg fun h => hmore.ne ((Collecting.add_complete_iff hlen v).1 h)]
  rfl

/-- The last character, of a frame that is good. -/
theorem collect_last_good (hlen : a.len = some l) (hlast : a.received + 1 = 6 + l)
    {v : Option Byte} {f : RxFrame} (hjudge : judge (a.add v) = some f) : s.collect a v = s.goodFrame f := by
  unfold collect
  dsimp only
  rw [if_neg (by omega), if_pos ((Collecting.add_complete_iff hlen v).2 hlast), hjudge]

/-- The last character, of a frame that is bad. -/
theorem collect_last_bad (hlen : a.len = some l) (hlast : a.received + 1 = 6 + l)
    {v : Option Byte} (hjudge : judge (a.add v) = none) : s.collect a v = s.badFrame := by
  unfold collect
  dsimp only
  rw [if_neg (by omega), if_pos ((Collecting.add_complete_iff hlen v).2 hlast), hjudge]

end State

/-- Settles O35, by the place of the character in the frame; the judging of a complete frame is `readFrame_complete`. -/
theorem frameAssemblyTakesCharacters : Obligations.FrameAssemblyTakesCharacters := by
  intro s c hr
  rw [exec_character s c hr, exec_characterGap s hr]
  refine ⟨fun hl => congrArg _ (State.takeCharacter_ignored hl _),
    fun hl => ⟨fun ha => ?hunt, fun a ha => ?collect⟩⟩
  case hunt =>
    rw [State.takeCharacter_hunt hl ha]
    rfl
  case collect =>
    rw [State.takeCharacter_collect hl ha, ha, Option.isSome_some, if_pos rfl]
    refine ⟨fun hplace hlen => ?header, fun hplace => ⟨fun v hv hsmall => ?len, fun v hv hlarge => ?lenLarge,
      fun hv => ?lenError⟩, fun l hplace hlen hmore => ?body, fun l hplace hlen hlast => ⟨fun herror => ?error,
      fun hdr sq ln hi lo payload hv hgood hbytes hlength hbad => ?bad⟩⟩
    case header =>
      rw [State.collect_header hplace hlen, ← hlen]
      rfl
    case len =>
      rw [hv, State.collect_len hplace hsmall]
      simp [State.receiving, State.setReceiver, Collecting.add, hplace]
    case lenLarge =>
      exact congrArg _ (State.collect_len_bad hplace fun b hb => Option.some.inj (hv.symm.trans hb) ▸ hlarge)
    case lenError => exact congrArg _ (State.collect_len_bad hplace fun b hb => nomatch hv.symm.trans hb)
    case body =>
      rw [State.collect_body hplace hlen hmore, ← hlen]
      rfl
    case error =>
      refine congrArg _ (State.collect_last_bad hlen hlast (judge_of_error ?_))
      rcases herror with h | h <;> simp [Collecting.add, h]
    case bad =>
      refine congrArg _ (State.collect_last_bad hlen hlast ?_)
      have hdone : (a.add (charValue c)).bytes = hdr :: sq :: ln :: (payload ++ [hi, lo]) := by
        simp [Collecting.add, hbytes, hv]
      rw [judge_of_good (by simp [Collecting.add, hgood, hv]), hdone, readFrame_complete hlength]
      refine ite_eq_right_iff.2 fun ⟨_, hcrc, hseq⟩ => Option.eq_none_iff_forall_ne_some.2 fun f hread => ?_
      rcases hbad with h | h | h
      · exact h hcrc
      · omega
      · rcases acceptsLength_of_readKind hread with ⟨hk, _⟩ | ⟨hk, _⟩ | ⟨hk, _⟩ | ⟨hk, _⟩ | ⟨hk, _⟩ | ⟨hk, _⟩
        all_goals
          simp only [hk] at h
          omega

/-! ### A whole good frame (R94, R104) -/

/-- The kind and the lowest flag of a header byte (R94). -/
theorem headerByte_fields (kind flags : BitVec 4) :
    (kind ++ flags : Byte).extractLsb' 4 4 = kind ∧ (kind ++ flags : Byte).getLsbD 0 = flags.getLsbD 0 :=
  ⟨BitVec.extractLsb'_append_eq_left, by rw [BitVec.getLsbD_append, if_pos (by decide)]⟩

theorem getLsbD_append_bit1 (x : BitVec 3) (b : Bool) : (x ++ bit1 b : BitVec 4).getLsbD 0 = b := by
  rw [BitVec.getLsbD_append, if_pos (by decide)]
  simp [bit1]

/-- The bytes of a frame behind its SOF read as the frame of its header and payload. -/
theorem readFrame_frameBytes (kind flags : BitVec 4) (n : SeqNum) {payload : List Byte} (hlen : payload.length ≤ 27) :
    ∃ sq ln rest, frameBytes kind flags n payload = Config.sofChar :: (kind ++ flags : Byte) :: sq :: ln :: rest ∧
      ln.toNat ≤ 27 ∧ rest.length = ln.toNat + 2 ∧
      readFrame ((kind ++ flags : Byte) :: sq :: ln :: rest) = readKind (kind ++ flags) n payload := by
  have hln : (BitVec.ofNat 8 payload.length).toNat = payload.length := by
    rw [BitVec.toNat_ofNat, Nat.mod_eq_of_lt (by omega)]
  have hseq : ((0 : BitVec 2) ++ n : Byte).toNat < 64 := by
    rw [seqByte_eq, BitVec.toNat_setWidth_of_le (by decide)]
    exact n.isLt
  refine ⟨(0 : BitVec 2) ++ n, BitVec.ofNat 8 payload.length, payload ++ [_, _], rfl,
    hln.le.trans hlen, by rw [List.length_append, hln]; rfl, ?_⟩
  rw [readFrame_complete hln.symm, if_pos ⟨hln.le.trans hlen, ((crcBytes_iff _ _ _).1 rfl), hseq⟩, field_lowest]

/-- A good frame's bytes are those of its kind, whatever the bits that the device does not examine (R96, R97). -/
theorem RxFrame.bytes_spec (f : RxFrame) (spare : BitVec 4) (helloSeq : SeqNum) (hf : f.command.wellFormed = true) :
    ∃ kind flags n payload, f.bytes spare helloSeq = frameBytes kind flags n payload ∧ payload.length ≤ 27 ∧
      readKind (kind ++ flags) n payload = some f := by
  cases f with
  | hello heard revision window epoch role =>
    refine ⟨_, _, _, _, rfl, by simp, ?_⟩
    obtain ⟨hkind, hflag⟩ := headerByte_fields 0x1 (spare.extractLsb' 1 3 ++ bit1 heard)
    unfold readKind
    rw [hkind, hflag, getLsbD_append_bit1]
    rfl
  | complete n oldest vector =>
    refine ⟨_, _, _, _, rfl, by simp, ?_⟩
    obtain ⟨hkind, hflag⟩ := headerByte_fields 0x8 (spare.extractLsb' 1 3 ++ bit1 oldest)
    unfold readKind
    rw [hkind, hflag, getLsbD_append_bit1]
    rfl
  | note n tag data =>
    have hdata := (noteLengthOk_iff data).1 hf
    obtain ⟨hkind, -⟩ := headerByte_fields 0x5 spare
    refine ⟨_, _, _, _, rfl, by rw [List.length_cons]; omega, ?_⟩
    unfold readKind
    rw [hkind]
    exact if_pos hdata
  | ack n | nak n | control n tag op first count =>
    refine ⟨_, _, _, _, rfl, by simp, ?_⟩
    unfold readKind
    rw [BitVec.extractLsb'_append_eq_left]
    rfl

theorem execAll_cons {c : Instr} {cs : List Instr} {s t : State} (h : exec c s = .next t) :
    execAll (c :: cs) s = execAll cs t := by rw [execAll, h]

namespace State

variable {s : State} {a : Collecting} {l : Nat}

theorem receiving_receiving (s : State) (a b : Collecting) : (s.receiving a).receiving b = s.receiving b := rfl

/-- A good character of a frame in COLLECT. -/
theorem exec_receiving (hr : s.resetting = none) (hl : s.session.link = .greeting ∨ s.session.link = .active)
    (a : Collecting) (b : Byte) :
    exec (.character (goodChar b)) (s.receiving a) = .next ((s.receiving a).collect a (some b)) := by
  rw [exec_character (s.receiving a) _ hr, charValue_goodChar,
    takeCharacter_collect (s := s.receiving a) hl rfl]

/-- HDR and SEQ of a frame in COLLECT. -/
theorem exec_receiving_header (hr : s.resetting = none) (hl : s.session.link = .greeting ∨ s.session.link = .active)
    (hplace : a.received < 3) (hlen : a.len = none) (b : Byte) :
    exec (.character (goodChar b)) (s.receiving a) = .next (s.receiving (a.add (some b))) := by
  rw [exec_receiving hr hl, collect_header hplace hlen, receiving_receiving]

/-- LEN of a frame in COLLECT. -/
theorem exec_receiving_len (hr : s.resetting = none) (hl : s.session.link = .greeting ∨ s.session.link = .active)
    (hplace : a.received = 3) {b : Byte} (hb : b.toNat ≤ 27) :
    exec (.character (goodChar b)) (s.receiving a) =
      .next (s.receiving { a.add (some b) with len := some b.toNat }) := by
  rw [exec_receiving hr hl, collect_len hplace hb, receiving_receiving]

/-- A frame that arrives takes the place of what assembly held. -/
theorem goodFrame_receiving (hl : s.session.link = .greeting ∨ s.session.link = .active) (f : RxFrame) :
    (s.receiving a).goodFrame f = s.goodFrame f := by
  rcases hl with hl | hl
  · rw [goodFrame_greeting hl, goodFrame_greeting (s := s.receiving a) hl]
    rfl
  · rw [goodFrame_active hl, goodFrame_active (s := s.receiving a) hl]
    rfl

/-- The characters behind LEN complete the frame whose bytes they end. -/
theorem execAll_receiving {f : RxFrame} (hr : s.resetting = none)
    (hl : s.session.link = .greeting ∨ s.session.link = .active) (b : Byte) (bs : List Byte)
    (hplace : 4 ≤ a.received) (hlen : a.len = some l) (hgood : a.errorMark = false)
    (hcount : a.received + (b :: bs).length = 6 + l) (hread : readFrame (a.bytes ++ b :: bs) = some f) :
    execAll ((b :: bs).map fun b => .character (goodChar b)) (s.receiving a) = .next (s.goodFrame f) := by
  induction bs generalizing a b with
  | nil =>
    have hjudge : judge (a.add (some b)) = some f := (judge_of_good (by simp [Collecting.add, hgood])).trans hread
    rw [List.map_cons, execAll_cons (exec_receiving hr hl a b), collect_last_good hlen hcount hjudge,
      goodFrame_receiving hl]
    rfl
  | cons b' bs ih =>
    rw [List.length_cons] at hcount
    rw [List.map_cons, execAll_cons (exec_receiving hr hl a b),
      collect_body hplace hlen (by rw [List.length_cons] at hcount; omega), receiving_receiving]
    refine ih (a := a.add (some b)) b' (by simp only [Collecting.add]; omega) hlen (by simp [Collecting.add, hgood])
      (by simp only [Collecting.add]; omega) ?_
    simpa [Collecting.add] using hread

end State

/-- Settles O33: SOF, HDR, SEQ and LEN open the frame, and the characters behind them complete it. -/
theorem charactersOfAFrameAreItsCommand : Obligations.CharactersOfAFrameAreItsCommand := by
  intro f spare helloSeq s hr hl ha hf
  obtain ⟨kind, flags, n, payload, hbytes, hpayload, hkind⟩ := f.bytes_spec spare helloSeq hf
  obtain ⟨sq, ln, rest, hframe, hln, hrest, hread⟩ := readFrame_frameBytes kind flags n hpayload
  obtain ⟨b, bs, rfl⟩ := List.exists_cons_of_length_eq_add_one hrest
  have hsof : exec (.character (goodChar Config.sofChar)) s = .next (s.receiving Collecting.start) := by
    rw [exec_character s _ hr, charValue_goodChar, State.takeCharacter_hunt hl ha, if_pos rfl]
    rfl
  have hhdr (b : Byte) :=
    State.exec_receiving_header hr hl (a := Collecting.start) (by decide) rfl b
  have hsq (b b' : Byte) :=
    State.exec_receiving_header hr hl (a := Collecting.start.add (some b)) (Nat.lt_succ_self 2) rfl b'
  rw [exec_frame s f hr hf, hbytes, hframe, List.map_cons, execAll_cons hsof, List.map_cons, execAll_cons (hhdr _),
    List.map_cons, execAll_cons (hsq _ _), List.map_cons, execAll_cons (State.exec_receiving_len hr hl rfl hln)]
  have hcount : 4 + (b :: bs).length = 6 + ln.toNat := by omega
  exact State.execAll_receiving hr hl b bs (le_refl 4) rfl rfl hcount (hread.trans hkind)

end Sys2Proof.Machine
end

section
/-! PROOFS. What session end makes of the sources, the Event Queue and the note slots (R61 to R65, R117, R135, R155, R164,
R177), and the entry to FAILED that ends a session (R116, R119, R120). Each record and each delivered source speaks of one
source or one slot, and no two speak of the same. -/

namespace Sys2Proof.Machine

/-! ### Bits of CAUSE set in turn -/

theorem or_right_comm (x y z : BitVec 8) : x ||| y ||| z = x ||| z ||| y := by
  rw [BitVec.or_assoc, BitVec.or_comm y, BitVec.or_assoc]

theorem or_or_right (x y z : BitVec 8) : x ||| y ||| z ||| y = x ||| y ||| z := by
  rw [or_right_comm, BitVec.or_assoc x, BitVec.or_self]

theorem or_ite_or_ite (x v : BitVec 8) (a b : Bool) :
    ((x ||| if a then v else 0) ||| if b then v else 0) = x ||| if b || a then v else 0 := by
  cases a <;> cases b <;> simp [BitVec.or_assoc]

namespace State

variable {s t : State}

/-! ### What session end reads of a source -/

/-- The entry and the qualified level of source n stand from s to t. -/
structure SameSource (s t : State) (n : SourceId) : Prop where
  src : t.src n = s.src n
  level : t.qualified n = s.qualified n

theorem SameSource.of_src {n : SourceId} (hsrc : t.src n = s.src n) (hlines : t.lines = s.lines)
    (hsoft : t.softLevels = s.softLevels) : SameSource s t n :=
  ⟨hsrc, qualified_congr hlines hsoft (congrArg Source.sense hsrc)⟩

theorem SameSource.raisable_eq {n : SourceId} (h : SameSource s t n) : t.raisable n = s.raisable n := by
  rw [raisable, h.src, h.level]
  rfl

theorem SameSource.drops_eq {n : SourceId} (h : SameSource s t n) : t.drops n = s.drops n := by
  rw [drops, h.src, h.level]
  rfl

theorem SameSource.requeued_eq {m : Message} (h : SameSource s t m.source) : t.requeued m = s.requeued m := by
  simp only [requeued, levelMessage, edgeMessage, h.src]

/-! ### Delivered sources abandoned (R64) -/

/-- The entry of a DELIVERED source after session end. -/
def abandonedEntry (s : State) (n : SourceId) : Source :=
  { s.src n with state := if s.raisable n then .queued else .idle }

theorem abandonedEntry_eq (s : State) (n : SourceId) :
    s.abandonedEntry n = { s.src n with state := if s.asserts n then .queued else .idle } := by
  rw [abandonedEntry]
  exact congrArg (fun x : Delivery => { s.src n with state := x }) (if_congr (s.raisable_iff n) rfl rfl)

theorem decide_asserts (s : State) (n : SourceId) : decide (s.asserts n) = s.raisable n := by
  rw [Bool.eq_iff_iff, decide_eq_true_iff, raisable_iff]

/-- A source in IDLE is re-evaluated as it stood, STATE aside. -/
theorem abandonSource_eq_ite (s : State) (n : SourceId) :
    s.abandonSource n =
      if s.raisable n then (s.setSrc n { s.src n with state := .idle }).placed (s.levelMessage n true)
      else s.setSrc n { s.src n with state := .idle } := by
  have hlevel : (s.setSrc n { s.src n with state := .idle }).qualified n = s.qualified n :=
    qualified_congr rfl rfl (by rw [setSrc_src_self])
  have hraisable : (s.setSrc n { s.src n with state := .idle }).raisable n = s.raisable n := by
    rw [raisable, hlevel, setSrc_src_self]
    rfl
  have hmessage : (s.setSrc n { s.src n with state := .idle }).levelMessage n true = s.levelMessage n true := by
    rw [levelMessage, setSrc_src_self]
    rfl
  have heq : s.abandonSource n = (s.setSrc n { s.src n with state := .idle }).checked n true := s.abandonSource_eq n
  rw [heq, checked, hmessage, ← hraisable]
  exact if_congr (raisable_iff _ n).symm rfl rfl

theorem abandonSource_rest (s : State) (n : SourceId) :
    s.abandonSource n =
      { s with sources := (s.abandonSource n).sources, queue := (s.abandonSource n).queue } := by
  rw [abandonSource_eq_ite]
  split <;> rfl

theorem abandonSource_src (s : State) (n k : SourceId) :
    (s.abandonSource n).src k = if k = n then s.abandonedEntry n else s.src k := by
  rw [abandonSource_eq_ite, abandonedEntry]
  cases s.raisable n with
  | false => exact setSrc_src s n k _
  | true =>
    rw [if_pos rfl, placed_src, setSrc_src]
    by_cases hk : k = n <;> simp [hk, levelMessage]

theorem abandonSource_queue (s : State) (n : SourceId) (c : Fin 4) :
    (s.abandonSource n).queue[c.val] = s.queue[c.val] ++
      if s.raisable n && decide ((s.src n).prio = c) then [s.levelMessage n true] else [] := by
  rw [abandonSource_eq_ite]
  cases s.raisable n with
  | false => exact (List.append_nil _).symm
  | true =>
    rw [if_pos rfl, placed_queue, Bool.true_and]
    exact congrArg _ (if_congr decide_eq_true_iff.symm rfl rfl)

/-- From s to t the sources of a list are abandoned in its order, and nothing else changes. -/
structure Abandoned (s t : State) (ns : List SourceId) : Prop where
  src : ∀ n, t.src n = if n ∈ ns then s.abandonedEntry n else s.src n
  queue : ∀ c : Fin 4, t.queue[c.val] = s.queue[c.val] ++
    (ns.filter fun n => s.raisable n && decide ((s.src n).prio = c)).map fun n => s.levelMessage n true
  rest : t = { s with sources := t.sources, queue := t.queue }

theorem foldl_abandonSource (s : State) (ns : List SourceId) (hnodup : ns.Nodup) :
    Abandoned s (ns.foldl abandonSource s) ns := by
  induction ns generalizing s with
  | nil => exact ⟨fun _ => rfl, fun _ => (List.append_nil _).symm, rfl⟩
  | cons n ns ih =>
    obtain ⟨hn, hns⟩ := List.nodup_cons.1 hnodup
    obtain ⟨src, queue, rest⟩ := ih (s.abandonSource n) hns
    have hsame {k : SourceId} (hk : k ∈ ns) : SameSource s (s.abandonSource n) k := by
      refine .of_src ?_ (by rw [abandonSource_rest]) (by rw [abandonSource_rest])
      rw [abandonSource_src, if_neg (ne_of_mem_of_not_mem hk hn)]
    rw [List.foldl_cons]
    refine ⟨fun k => ?_, fun c => ?_, rest.trans ?_⟩
    · rw [src k]
      by_cases hk : k ∈ ns
      · rw [if_pos hk, if_pos (List.mem_cons_of_mem n hk), abandonedEntry, (hsame hk).src, (hsame hk).raisable_eq]
        rfl
      · rw [if_neg hk, abandonSource_src]
        by_cases hkn : k = n <;> simp [hkn, hk]
    · have hkeep : (ns.filter fun k => (s.abandonSource n).raisable k &&
            decide (((s.abandonSource n).src k).prio = c)) =
          ns.filter fun k => s.raisable k && decide ((s.src k).prio = c) :=
        List.filter_congr fun k hk => by rw [(hsame hk).src, (hsame hk).raisable_eq]
      have hmessages (p : SourceId → Bool) : ((ns.filter p).map fun k => (s.abandonSource n).levelMessage k true) =
          (ns.filter p).map fun k => s.levelMessage k true :=
        List.map_congr_left fun k hk => levelMessage_congr (hsame (List.mem_filter.1 hk).1).src true
      rw [queue c, hkeep, hmessages, abandonSource_queue, List.append_assoc, List.filter_cons]
      cases s.raisable n && decide ((s.src n).prio = c) <;> rfl
    · rw [abandonSource_rest]

/-! ### Records disposed of (R62, R63, R135, R164, R177) -/

/-- The entry of a SENT source after session end. -/
def requeuedEntry (s : State) (n : SourceId) : Source :=
  { s.src n with pending := 0, pendOvr := false, state := if s.drops n then .idle else .queued }

/-- Whether the count of a requeued message is held at 255 (R50, R62). -/
def overflows (s : State) (m : Message) : Bool :=
  !(s.src m.source).sense.isLevel && !(s.src m.source).mask &&
    decide (m.count.toNat + (s.src m.source).pending.toNat > 255)

theorem SameSource.overflows_eq {m : Message} (h : SameSource s t m.source) : t.overflows m = s.overflows m := by
  rw [overflows, h.src]
  rfl

theorem SameSource.requeuedEntry_eq {n : SourceId} (h : SameSource s t n) : t.requeuedEntry n = s.requeuedEntry n := by
  rw [requeuedEntry, h.src, h.drops_eq]
  rfl

/-- The requeued message stands in the class of its source. -/
theorem requeued_prio (s : State) (m : Message) : (s.requeued m).prio = (s.src m.source).prio := by
  unfold requeued
  split
  · rfl
  · split <;> rfl

/-- A source quieted and its message put at the front of its class (R41, R71). -/
theorem queueFront_quieted (s : State) (n : SourceId) (count : Byte) (overrun : Bool) :
    (s.setSrc n { s.src n with pending := 0, pendOvr := false, state := .idle }).queueFront n count overrun =
      { s with
        sources := s.sources.set n.val { s.src n with pending := 0, pendOvr := false, state := .queued } n.isLt
        queue := s.queue.frontInsert ((s.src n).message n count overrun true) } := by
  unfold queueFront
  rw [setSrc_src_self]
  simp [setSrc, setQueue, Source.message]

/-- The message that session end makes of a frame has the fields of its source (R40, R62, R63). -/
theorem requeued_eq_message (s : State) (m : Message) :
    s.requeued m = if (s.src m.source).sense.isLevel then (s.src m.source).message m.source 1 false true
      else if m.count.toNat + (s.src m.source).pending.toNat > 255 then
        (s.src m.source).message m.source 255 true true
      else (s.src m.source).message m.source (m.count + (s.src m.source).pending)
        (m.overrun || (s.src m.source).pendOvr) true := by
  rw [requeued]
  cases hl : (s.src m.source).sense.isLevel with
  | true => simp only [if_true, message_level _ _ _ hl]
  | false => simp only [Bool.false_eq_true, if_false, message_edge _ _ _ _ _ hl]

/-- A SENT source that is not to be reported any more is withdrawn (R62, R63). -/
theorem requeueSource_dropped {m : Message} (h : s.drops m.source = true) :
    s.requeueSource m.source m.count m.overrun =
      (s.setSrc m.source { s.src m.source with pending := 0, pendOvr := false, state := .idle }).withWithdrawn 1 := by
  rw [drops, Bool.or_eq_true, Bool.and_eq_true, Bool.not_eq_true'] at h
  unfold requeueSource
  dsimp only
  rw [count_withdrawn_eq]
  by_cases hl : (s.src m.source).sense.isLevel = true
  · rw [if_pos hl, if_neg]
    rcases h with h | ⟨-, h⟩ <;> simp [h]
  · have hm : (s.src m.source).mask = true := h.resolve_right fun h => hl h.1
    rw [if_neg hl, if_pos hm]

/-- The message of another SENT source goes back to the front of its class (R62, R63). -/
theorem requeueSource_kept {m : Message} (h : s.drops m.source = false) :
    s.requeueSource m.source m.count m.overrun = { s with
      sources := s.sources.set m.source.val
        { s.src m.source with pending := 0, pendOvr := false, state := .queued } m.source.isLt
      queue := s.queue.frontInsert (s.requeued m)
      regs := { s.regs with cause := s.regs.cause ||| if s.overflows m then 0x80#8 else 0 } } := by
  rw [drops, Bool.or_eq_false_iff, Bool.and_eq_false_iff, Bool.not_eq_false'] at h
  obtain ⟨hm, hq⟩ := h
  rw [requeued_eq_message, overflows]
  unfold requeueSource
  simp only [queueFront_quieted]
  by_cases hl : (s.src m.source).sense.isLevel = true
  · have hasserted : s.qualified m.source = true := hq.resolve_left (by simp [hl])
    simp [hl, hm, hasserted]
  · by_cases hsum : m.count.toNat + (s.src m.source).pending.toNat > 255
    · simp [hl, hm, hsum, raiseFlag_eq, flagMask_eq, withCause]
    · simp [hl, hm, hsum]

theorem overflows_of_drops {m : Message} (h : s.drops m.source = true) : s.overflows m = false := by
  rw [drops, Bool.or_eq_true, Bool.and_eq_true] at h
  rw [overflows]
  rcases h with h | ⟨h, -⟩ <;> simp [h]

theorem requeueSource_src (s : State) (m : Message) (k : SourceId) :
    (s.requeueSource m.source m.count m.overrun).src k =
      if k = m.source then s.requeuedEntry m.source else s.src k := by
  rw [requeuedEntry]
  cases h : s.drops m.source with
  | true => rw [requeueSource_dropped h]; exact setSrc_src s m.source k _
  | false => rw [requeueSource_kept h]; exact setSrc_src s m.source k _

theorem requeueSource_queue (s : State) (m : Message) (c : Fin 4) :
    (s.requeueSource m.source m.count m.overrun).queue[c.val] =
      (if !s.drops m.source && decide ((s.src m.source).prio = c) then [s.requeued m] else []) ++ s.queue[c.val] := by
  cases h : s.drops m.source with
  | true => rw [requeueSource_dropped h]; rfl
  | false =>
    rw [requeueSource_kept h]
    simp only [EventQueue.frontInsert, Vector.getElem_set, requeued_prio, Fin.ext_iff]
    split
    next hc => simp [← hc]
    next hc => simp [hc]

theorem requeueSource_regs (s : State) (m : Message) :
    (s.requeueSource m.source m.count m.overrun).regs = { s.regs with
      cause := s.regs.cause ||| if s.overflows m then 0x80#8 else 0
      stats := { s.regs.stats with
        eventsWithdrawn := saturate32 s.regs.stats.eventsWithdrawn (if s.drops m.source then 1 else 0) } } := by
  cases h : s.drops m.source with
  | true => rw [requeueSource_dropped h, overflows_of_drops h]; simp [withWithdrawn]
  | false => rw [requeueSource_kept h]; simp [saturate32_zero]

theorem requeueSource_rest (s : State) (m : Message) :
    s.requeueSource m.source m.count m.overrun = { s with
      sources := (s.requeueSource m.source m.count m.overrun).sources
      queue := (s.requeueSource m.source m.count m.overrun).queue
      regs := (s.requeueSource m.source m.count m.overrun).regs } := by
  cases h : s.drops m.source with
  | true => rw [requeueSource_dropped h]; rfl
  | false => rw [requeueSource_kept h]

end State

/-- A slot whose note goes back to WAITING, if it was in flight (R164). -/
def Slot.landed : Slot → Slot
  | .inFlight n => .waiting n
  | .waiting n => .waiting n
  | .free => .free

namespace State

variable {s t : State}

/-- From s to t the frames of some messages and of the notes of some slots are disposed of, the first the oldest. -/
structure Disposed (s t : State) (ms : List Message) (ks : List SlotId) : Prop where
  src : ∀ n, t.src n = if n ∈ ms.map (·.source) then s.requeuedEntry n else s.src n
  queue : ∀ c : Fin 4, t.queue[c.val] =
    (ms.filter fun m => !s.drops m.source && decide ((s.src m.source).prio = c)).map s.requeued ++ s.queue[c.val]
  slots : ∀ k : SlotId, t.notes.slots[k.val] =
    if k ∈ ks then (s.notes.slots[k.val]).landed else s.notes.slots[k.val]
  notes : t.notes = { s.notes with slots := t.notes.slots, order := ks ++ s.notes.order }
  regs : t.regs = { s.regs with
    cause := s.regs.cause ||| if ms.any s.overflows then 0x80#8 else 0
    stats := { s.regs.stats with
      eventsWithdrawn := saturate32 s.regs.stats.eventsWithdrawn (ms.countP fun m => s.drops m.source) } }
  rest : t = { s with sources := t.sources, queue := t.queue, notes := t.notes, regs := t.regs }

theorem Disposed.refl (s : State) : Disposed s s [] [] where
  src _ := rfl
  queue _ := rfl
  slots _ := rfl
  notes := rfl
  regs := by simp [saturate32_zero]
  rest := rfl

/-- The frame of a message of another source. -/
theorem Disposed.requeue {ms : List Message} {ks : List SlotId} (h : Disposed s t ms ks) {m : Message}
    (hm : m.source ∉ ms.map (·.source)) :
    Disposed s (t.requeueSource m.source m.count m.overrun) (m :: ms) ks := by
  have hsame : SameSource s t m.source :=
    .of_src (by rw [h.src, if_neg hm]) (by rw [h.rest]) (by rw [h.rest])
  have hnotes : (t.requeueSource m.source m.count m.overrun).notes = t.notes := by rw [requeueSource_rest]
  refine ⟨fun n => ?src, fun c => ?queue, fun k => ?slots, ?notes, ?regs, ?rest⟩
  case src =>
    rw [requeueSource_src, hsame.requeuedEntry_eq, h.src]
    by_cases hn : n = m.source <;> simp [hn]
  case queue =>
    rw [requeueSource_queue, h.queue, hsame.drops_eq, hsame.src, hsame.requeued_eq, List.filter_cons]
    cases !s.drops m.source && decide ((s.src m.source).prio = c) <;> rfl
  case slots => rw [hnotes, h.slots]
  case notes => rw [hnotes, ← h.notes]
  case regs =>
    rw [requeueSource_regs, hsame.overflows_eq, hsame.drops_eq, h.regs]
    simp only [saturate32_add, List.any_cons, List.countP_cons, or_ite_or_ite]
    rfl
  case rest =>
    rw [requeueSource_rest]
    exact congrArg (fun x : State => { x with
      sources := (t.requeueSource m.source m.count m.overrun).sources
      queue := (t.requeueSource m.source m.count m.overrun).queue
      regs := (t.requeueSource m.source m.count m.overrun).regs }) h.rest

/-- The frame of a note in flight. -/
theorem Disposed.land {ms : List Message} {ks : List SlotId} (h : Disposed s t ms ks) {k : SlotId} {x : Note}
    (hk : s.notes.slots[k.val] = .inFlight x) :
    Disposed s (t.setNotes { t.notes with slots := t.notes.slots.set k.val (.waiting x), order := k :: t.notes.order })
      ms (k :: ks) := by
  refine ⟨h.src, h.queue, fun j => ?slots, ?notes, h.regs, ?rest⟩
  case slots =>
    rw [setNotes_notes, Vector.getElem_set]
    by_cases hj : k = j
    · subst hj
      simp [hk, Slot.landed]
    · rw [if_neg fun h => hj (Fin.ext h), h.slots]
      simp [Ne.symm hj]
  case notes => rw [setNotes_notes, h.notes]; rfl
  case rest =>
    exact congrArg (fun u : State => u.setNotes
      { t.notes with slots := t.notes.slots.set k.val (.waiting x), order := k :: t.notes.order }) h.rest

/-- The records of a Window: the frames of its messages and notes, where no two are of one source. -/
theorem disposed_disposeRecords (s : State) (rs : List FrameRecord)
    (hsources : ((rs.filterMap fun r => r.body.message).map (·.source)).Nodup)
    (hslots : ∀ r ∈ rs, ∀ p ∈ r.body.slotNote, s.notes.slots[p.1.val] = .inFlight p.2) :
    Disposed s (s.disposeRecords rs) (rs.filterMap fun r => r.body.message)
      (rs.filterMap fun r => r.body.noteSlot) := by
  induction rs with
  | nil => exact .refl s
  | cons r rs ih =>
    obtain ⟨seq, body⟩ := r
    have hrest := ih (hsources.sublist (((List.sublist_cons_self _ rs).filterMap _).map _)) fun r hr =>
      hslots r (List.mem_cons_of_mem _ hr)
    cases body with
    | event m => exact hrest.requeue (List.nodup_cons.1 hsources).1
    | note k x => exact hrest.land (hslots _ List.mem_cons_self (k, x) rfl)
    | reply p => exact hrest

/-! ### Session end (R117) -/

/-- No two records of a lawful Window are of one source. -/
theorem PlaceLaw.nodup_flyingMessages (h : s.PlaceLaw) : (s.flyingMessages.map (·.source)).Nodup := by
  obtain ⟨-, hsent, -⟩ := h
  rwa [sentSources_eq] at hsent

/-- The STATE of a source says where it is held (R39). -/
theorem PlaceLaw.places (h : s.PlaceLaw) (n : SourceId) :
    (n ∈ s.flyingMessages.map (·.source) ↔ (s.src n).state = .sent) ∧
      (n ∈ s.delivered ↔ (s.src n).state = .delivered) := by
  obtain ⟨-, -, -, hplace⟩ := h
  obtain ⟨-, hsent, hdelivered, -⟩ := hplace n
  exact ⟨sentSources_eq s ▸ hsent, hdelivered⟩

/-- A slot in no record of the Window is not in flight. -/
theorem SlotLaw.landed_of_not_mem (h : s.SlotLaw) {k : SlotId} (hk : k ∉ s.flyingSlots) :
    (s.notes.slots[k.val]).landed = s.notes.slots[k.val] := by
  obtain ⟨-, -, -, hflying, -⟩ := h
  have hslot : (s.notes.slots[k.val]).isInFlight ≠ true := fun h => hk ((hflying k).2 h)
  cases hx : s.notes.slots[k.val] with
  | inFlight n => simp [hx, Slot.isInFlight] at hslot
  | waiting n => rfl
  | free => rfl

/-- s with the records of its Window disposed of. -/
def unloaded (s : State) : State :=
  (s.setWindow { s.window with records := [], retry := 0, timer := none }).disposeRecords s.window.records

theorem unloaded_disposed (hplace : s.PlaceLaw) (hslot : s.SlotLaw) :
    Disposed (s.setWindow { s.window with records := [], retry := 0, timer := none }) s.unloaded
      s.flyingMessages s.flyingSlots := by
  obtain ⟨-, -, -, -, hinflight, -⟩ := hslot
  exact disposed_disposeRecords _ s.window.records hplace.nodup_flyingMessages hinflight

theorem disbanded_abandoned (hplace : s.PlaceLaw) :
    Abandoned (s.unloaded.setDelivered []) s.disbanded s.delivered := by
  obtain ⟨-, -, hnodup, -⟩ := hplace
  exact foldl_abandonSource _ _ hnodup

theorem unloaded_src (hplace : s.PlaceLaw) (hslot : s.SlotLaw) (n : SourceId) :
    s.unloaded.src n = if (s.src n).state = .sent then s.requeuedEntry n else s.src n :=
  ((unloaded_disposed hplace hslot).src n).trans (if_congr (hplace.places n).1 rfl rfl)

/-- A delivered source has no record: it is abandoned as it stood. -/
theorem unloaded_same (hplace : s.PlaceLaw) (hslot : s.SlotLaw) {n : SourceId} (hn : n ∈ s.delivered) :
    SameSource s (s.unloaded.setDelivered []) n := by
  have hstate := (hplace.places n).2.1 hn
  have hrest := (unloaded_disposed hplace hslot).rest
  refine .of_src ?_ (congrArg State.lines hrest :) (congrArg State.softLevels hrest :)
  exact (unloaded_src hplace hslot n).trans (if_neg (by simp [hstate]))

theorem disbanded_src (hplace : s.PlaceLaw) (hslot : s.SlotLaw) (n : SourceId) :
    s.disbanded.src n =
      if (s.src n).state = .delivered then s.abandonedEntry n
      else if (s.src n).state = .sent then s.requeuedEntry n else s.src n := by
  rw [(disbanded_abandoned hplace).src]
  by_cases hn : n ∈ s.delivered
  · have hsame := unloaded_same hplace hslot hn
    rw [if_pos hn, if_pos ((hplace.places n).2.1 hn), abandonedEntry, hsame.src, hsame.raisable_eq]
    rfl
  · rw [if_neg hn, if_neg (hn ∘ (hplace.places n).2.2)]
    exact unloaded_src hplace hslot n

theorem disbanded_queue (hplace : s.PlaceLaw) (hslot : s.SlotLaw) (c : Fin 4) :
    s.disbanded.queue[c.val] =
      (s.flyingMessages.filter fun m => !s.drops m.source && decide ((s.src m.source).prio = c)).map s.requeued ++
      s.queue[c.val] ++
      (s.delivered.filter fun n => s.raisable n && decide ((s.src n).prio = c)).map fun n => s.levelMessage n true := by
  have hsame {n : SourceId} (hn : n ∈ s.delivered) := unloaded_same hplace hslot hn
  have hkeep : (s.delivered.filter fun n => (s.unloaded.setDelivered []).raisable n &&
        decide (((s.unloaded.setDelivered []).src n).prio = c)) =
      s.delivered.filter fun n => s.raisable n && decide ((s.src n).prio = c) :=
    List.filter_congr fun n hn => by rw [(hsame hn).src, (hsame hn).raisable_eq]
  have hmessages (p : SourceId → Bool) :
      ((s.delivered.filter p).map fun n => (s.unloaded.setDelivered []).levelMessage n true) =
        (s.delivered.filter p).map fun n => s.levelMessage n true :=
    List.map_congr_left fun n hn => levelMessage_congr (hsame (List.mem_filter.1 hn).1).src true
  rw [(disbanded_abandoned hplace).queue, hkeep, hmessages]
  exact congrArg (· ++ _) ((unloaded_disposed hplace hslot).queue c)

theorem disbanded_slots (hplace : s.PlaceLaw) (hslot : s.SlotLaw) :
    s.disbanded.notes =
      { s.notes with slots := s.notes.slots.map Slot.landed, order := s.flyingSlots ++ s.notes.order } := by
  have hdisposed := unloaded_disposed hplace hslot
  have hslots : s.unloaded.notes.slots = s.notes.slots.map Slot.landed := by
    refine Vector.ext fun k hk => ?_
    rw [Vector.getElem_map]
    refine (hdisposed.slots ⟨k, hk⟩).trans ?_
    split
    next => rfl
    next hout => exact (hslot.landed_of_not_mem hout).symm
  rw [s.disbanded_notes]
  refine hdisposed.notes.trans ?_
  rw [hslots]
  rfl

theorem disbanded_rest (hplace : s.PlaceLaw) (hslot : s.SlotLaw) :
    s.disbanded = { s with
      window := { s.window with records := [], retry := 0, timer := none }, delivered := []
      sources := s.disbanded.sources, queue := s.disbanded.queue, notes := s.disbanded.notes
      regs := { s.regs with
        cause := s.regs.cause ||| if s.flyingMessages.any s.overflows then 0x80#8 else 0
        stats := { s.regs.stats with
          eventsWithdrawn := saturate32 s.regs.stats.eventsWithdrawn
            (s.flyingMessages.countP fun m => s.drops m.source) } } } := by
  have hdisposed := unloaded_disposed hplace hslot
  have hrest := hdisposed.rest
  rw [hdisposed.regs] at hrest
  have hnotes : s.disbanded.notes = s.unloaded.notes := s.disbanded_notes
  rw [hnotes]
  refine (disbanded_abandoned hplace).rest.trans ?_
  exact congrArg (fun u : State => { u with
    delivered := [], sources := s.disbanded.sources, queue := s.disbanded.queue }) hrest

/-- Closing the link's own blocks leaves the sources, the Event Queue and the notes alone. -/
theorem closed_contents (t : State) :
    (∀ n, t.closed.src n = t.src n) ∧ t.closed.queue = t.queue ∧ t.closed.notes = t.notes := by
  rw [closed_eq]
  exact ⟨fun _ => rfl, rfl, rfl⟩

/-- Session end of a lawful device, by the records of its Window and the sources of its Delivered List. -/
theorem endSession_outcome (hplace : s.PlaceLaw) (hslot : s.SlotLaw) : SessionEndOutcome s s.endSession := by
  have hover := s.endSession_over
  have hsrc := disbanded_src hplace hslot
  have hqueue := disbanded_queue hplace hslot
  have hnotes := disbanded_slots hplace hslot
  have hrest := disbanded_rest hplace hslot
  rw [endSession_eq] at hover ⊢
  generalize s.disbanded = t at *
  obtain ⟨hclosedSrc, hclosedQueue, hclosedNotes⟩ := t.closed_contents
  refine
    { window := hover.window
      delivered := hover.delivered
      replies := hover.replies
      arbiter := hover.arbiter
      receiver := hover.receiver
      sources := fun n => (hclosedSrc n).trans ((hsrc n).trans ?sources)
      queue := fun c => ?queue
      notes := hclosedNotes.trans (hnotes.trans ?notes)
      regs := ?regs
      rest := ?rest }
  case sources =>
    rw [abandonedEntry_eq]
    cases (s.src n).state <;> rfl
  case queue =>
    rw [hclosedQueue, hqueue]
    simp only [decide_asserts]
  case notes => rfl
  case regs =>
    have hlinkDown := congrArg (fun u : State => { u.regs with cause := u.regs.cause ||| 0x02#8 }) hrest
    refine hlinkDown.trans ?_
    rw [sentSources_eq, List.countP_map, or_right_comm s.regs.cause _ 0x02#8]
    rfl
  case rest =>
    exact congrArg (fun u : State => { u with
      window := t.closed.window, delivered := t.closed.delivered, replies := t.closed.replies
      arbiter := t.closed.arbiter, receiver := t.closed.receiver, sources := t.closed.sources
      queue := t.closed.queue, notes := t.closed.notes, regs := t.closed.regs, session := t.closed.session
      tx := t.closed.tx, bus := t.closed.bus }) hrest

/-! ### The entry to FAILED that ends a session (R116, R119, R120) -/

/-- What session end makes of the blocks stands in the link state that follows. -/
theorem endOutcome_arrived (h : SessionEndOutcome s t) (σ : Session) (x : Option Item) :
    SessionEndOutcome s (t.arrived σ x (t.regs.cause ||| 0x02#8)) where
  window := h.window
  delivered := h.delivered
  replies := h.replies
  arbiter := h.arbiter
  receiver := congrArg (fun r : Receiver => { r with assembly := none }) h.receiver
  sources := h.sources
  queue := h.queue
  notes := h.notes
  regs := by
    refine (congrArg (fun r : Registers => { r with cause := r.cause ||| 0x02#8 }) h.regs).trans ?_
    rw [or_or_right]
  rest := congrArg (fun u : State => { u with
    session := σ, receiver := { t.receiver with assembly := none }, tx := x, bus := t.bus
    regs := { t.regs with cause := t.regs.cause ||| 0x02#8 } }) h.rest

/-- What the consecutive count and frame assembly hold makes no difference to session end. -/
theorem endOutcome_of_setReceiver {r : Receiver} (h : SessionEndOutcome (s.setReceiver r) t)
    (hr : r.expected = s.receiver.expected) : SessionEndOutcome s t where
  window := h.window
  delivered := h.delivered
  replies := h.replies
  arbiter := h.arbiter
  receiver := h.receiver.trans (congrArg (fun e : SeqNum => { r with
    assembly := none, badRun := 0, expected := e, nakSent := false }) hr)
  sources := h.sources
  queue := h.queue
  notes := h.notes
  regs := h.regs
  rest := h.rest

theorem sessionFailed_of_setReceiver {r : Receiver} {cause : FaultCause} (h : SessionFailed (s.setReceiver r) t cause)
    (hr : r.expected = s.receiver.expected) : SessionFailed s t cause := by
  obtain ⟨hend, hsession, htx, hbus⟩ := h
  exact ⟨endOutcome_of_setReceiver hend hr, hsession, htx, hbus⟩

/-- A session of a lawful device that fails ends, and the link is in FAILED with its cause. -/
theorem enterFailed_sessionFailed (hplace : s.PlaceLaw) (hslot : s.SlotLaw) (hsession : s.SessionLaw)
    (hl : s.session.link = .active) (cause : FaultCause) : SessionFailed s (s.enterFailed cause) cause := by
  have hend := endSession_outcome hplace hslot
  have hover := s.endSession_over
  obtain ⟨hgreet, -⟩ := hsession.greeting_over (by simp [hl])
  have hnow : s.endSession.now = s.now := (congrArg State.now hend.rest :)
  have heq : s.enterFailed cause = s.endSession.arrived { (s.endSession.recordFault cause).session with
      link := .failed
      restartDelay := if s.endSession.regs.linkCfg.auto then some s.endSession.now else none } (some .brk)
      (s.endSession.regs.cause ||| 0x02#8) := by
    rw [enterFailed_eq, leaveLink_active hl]
    rfl
  rw [heq]
  refine ⟨endOutcome_arrived hend _ _, ?session, rfl, hover.bus⟩
  rw [recordFault_eq, hover.linkCfg, hnow]
  change ({ s.endSession.session with faultCause := _, faultCount := _, link := _, restartDelay := _ } : Session) = _
  rw [hover.session, failedSession, ← hgreet]

end State
end Sys2Proof.Machine
end

section
/-! PROOFS. Bad frames and breaks (spec/05, spec/06): what a character gap and a break make of the state by link state, and
the session that either of them ends (R92, R101, R103, R105, R113, R116). -/

namespace Sys2Proof.Machine

namespace State

variable {s : State}

/-! ### A break by link state (R92, R110, R113, R116) -/

theorem takeBreak_ignored (h : s.session.link = .disabled ∨ s.session.link = .failed) : s.takeBreak = s := by
  rcases h with h | h <;> rw [takeBreak, h]

theorem takeBreak_syncing (h : s.session.link = .syncing) :
    s.takeBreak = s.setSession { s.session with syncCount := 0 } := by rw [takeBreak, h]

theorem takeBreak_greeting (h : s.session.link = .greeting) : s.takeBreak = s.abandonGreeting.enterSyncing := by
  rw [takeBreak, h]

theorem takeBreak_active (h : s.session.link = .active) : s.takeBreak = s.enterFailed .peerBreak := by
  rw [takeBreak, h]

end State

/-- Settles O36: in a frame a gap is a bad frame, counted in GREETING and ACTIVE; the eighth in a row fails the link. -/
theorem badFramesAreCountedToLineErrors : Obligations.BadFramesAreCountedToLineErrors := by
  intro s hr counted
  rw [exec_characterGap s hr]
  refine ⟨fun ha => ?hunt, fun ha => ?collect⟩
  case hunt => rw [ha]; rfl
  case collect =>
    rw [if_pos (Option.isSome_iff_ne_none.2 ha)]
    refine ⟨fun hl => ?greeting, fun hl hrun => ?more, fun hl hrun hinv => ?eighth⟩
    case greeting => rw [State.badFrame_greeting hl]; rfl
    case more => rw [State.badFrame_active hl, if_neg (by omega)]; rfl
    case eighth =>
      rw [State.badFrame_active hl, if_pos (by omega)]
      have hcounted : SessionFailed (s.badCounted (s.receiver.badRun + 1))
          ((s.badCounted (s.receiver.badRun + 1)).enterFailed .lineErrors) .lineErrors :=
        State.enterFailed_sessionFailed (s := s.badCounted (s.receiver.badRun + 1)) hinv.place hinv.slot hinv.session
          hl .lineErrors
      exact ⟨_, rfl, State.sessionFailed_of_setReceiver (s := counted) hcounted rfl⟩

/-- Settles O37, by the link state in which the break is taken. -/
theorem breakActsByLinkState : Obligations.BreakActsByLinkState := by
  intro s hr
  rw [exec_lineBreak s hr]
  refine ⟨fun hl => ?ignored, fun hl => ?syncing, fun hl => ?greeting, fun hl hinv => ⟨_, rfl, ?active⟩⟩
  case ignored => rw [State.takeBreak_ignored (s := s.inHunt) hl]; rfl
  case syncing => rw [State.takeBreak_syncing (s := s.inHunt) hl]; rfl
  case greeting =>
    rw [State.takeBreak_greeting (s := s.inHunt) hl, State.abandonGreeting_eq, State.enterSyncing_eq]
    rfl
  case active =>
    rw [State.takeBreak_active (s := s.inHunt) hl]
    have hfailed : SessionFailed s.inHunt (s.inHunt.enterFailed .peerBreak) .peerBreak :=
      State.enterFailed_sessionFailed (s := s.inHunt) hinv.place hinv.slot hinv.session hl .peerBreak
    exact State.sessionFailed_of_setReceiver hfailed rfl

end Sys2Proof.Machine
end

section
/-! PROOFS. The commands of the link (spec/06, section 6.2): each leaves the link state it finds and enters the one it names;
one that leaves ACTIVE ends the session without a fault (R86, R107 to R109, R117). -/

namespace Sys2Proof.Machine

/-! ### The commands outside a reset -/

theorem exec_linkEnable (s : State) (op : Byte) (h : s.resetting = none) :
    exec (.linkEnable op) s = .next s.linkEnable.ready :=
  congrArg _ (s.onBus_none _ State.linkEnable h)

theorem exec_linkDisable (s : State) (op : Byte) (h : s.resetting = none) :
    exec (.linkDisable op) s = .next s.linkDisable.ready :=
  congrArg _ (s.onBus_none _ State.linkDisable h)

theorem exec_linkRestart (s : State) (op : Byte) (h : s.resetting = none) :
    exec (.linkRestart op) s = .next s.linkRestart.ready :=
  congrArg _ (s.onBus_none _ State.linkRestart h)

namespace State

variable {s t : State}

/-! ### DISABLED and the other link states -/

/-- Nothing is in transmission in DISABLED (R85). -/
theorem TxLaw.tx_eq_none (h : s.TxLaw) (hl : s.session.link = .disabled) : s.tx = none := by
  rw [TxLaw, hl] at h
  exact of_decide_eq_true h

theorem linkEnable_disabled (hl : s.session.link = .disabled) (htx : s.tx = none) :
    s.linkEnable = s.enterSyncing.setTx (some .sync) := by
  rw [linkEnable, if_pos hl]
  exact if_pos htx

theorem linkEnable_elsewhere (hl : s.session.link ≠ .disabled) : s.linkEnable = s := if_neg hl

theorem linkDisable_disabled (hl : s.session.link = .disabled) : s.linkDisable = s := if_pos hl

theorem linkDisable_elsewhere (hl : s.session.link ≠ .disabled) :
    s.linkDisable =
      s.leaveLink.arrived { s.leaveLink.session with link := .disabled } none s.leaveLink.regs.cause :=
  (if_neg hl).trans (setLink_disabled_setTx _ none)

theorem linkRestart_disabled (hl : s.session.link = .disabled) :
    s.linkRestart = s.refuse .linkRestart 0 .linkBusy := if_pos hl

theorem linkRestart_elsewhere (hl : s.session.link ≠ .disabled) :
    s.linkRestart = s.leaveLink.arrived { s.leaveLink.session with link := .syncing, syncCount := 0 } (some .brk)
      s.leaveLink.regs.cause :=
  (if_neg hl).trans (enterSyncing_setTx _ (some .brk))

/-! ### A session that ends without a fault (R108, R109, R117) -/

/-- Session end has set LINK_DOWN. -/
theorem cause_or_linkDown (h : SessionEndOutcome s t) : t.regs.cause ||| 0x02#8 = t.regs.cause := by
  rw [h.regs, or_or_right]

/-- The completion of the access makes no difference to session end. -/
theorem endOutcome_ready (h : SessionEndOutcome s t) : SessionEndOutcome s t.ready :=
  { h with rest := congrArg State.ready h.rest }

/-- The session ends by a local command, whatever link state and item follow. -/
theorem endSession_arrived (hinv : s.Inv) (σ : Session) (x : Option Item) :
    SessionEndOutcome s (s.endSession.arrived σ x s.endSession.regs.cause).ready := by
  have hend := endSession_outcome hinv.place hinv.slot
  have harrived := endOutcome_arrived hend σ x
  rw [cause_or_linkDown hend] at harrived
  exact endOutcome_ready harrived

theorem endSession_arrived_bus (s : State) (σ : Session) (x : Option Item) (cause : Byte) :
    (s.endSession.arrived σ x cause).ready.bus = { s.bus with ready := true } :=
  congrArg (fun b : Bus => { b with ready := true }) s.endSession_over.bus

end State

/-- Settles O20: in DISABLED the transmitter is idle, so that SYNC characters begin at once. -/
theorem linkEnableLeavesDisabledAlone : Obligations.LinkEnableLeavesDisabledAlone := by
  intro s op hr htx
  rw [exec_linkEnable s op hr]
  refine ⟨fun hl => ?disabled, fun hl => ?elsewhere⟩
  case disabled =>
    rw [State.linkEnable_disabled hl (htx.tx_eq_none hl), State.enterSyncing_eq]
    rfl
  case elsewhere => rw [State.linkEnable_elsewhere hl]

/-- Settles O21, by the link state that is left. -/
theorem linkDisableStopsTheLink : Obligations.LinkDisableStopsTheLink := by
  intro s op hr
  rw [exec_linkDisable s op hr]
  refine ⟨fun hl => ?disabled, fun hl => ?syncing, fun hl => ?greeting, fun hl => ?failed, fun hl hinv => ?active⟩
  case disabled => rw [State.linkDisable_disabled hl]
  case syncing =>
    rw [State.linkDisable_elsewhere (by simp [hl]), State.leaveLink_syncing hl]
    rfl
  case greeting =>
    rw [State.linkDisable_elsewhere (by simp [hl]), State.leaveLink_greeting hl, State.abandonGreeting_eq]
    rfl
  case failed =>
    rw [State.linkDisable_elsewhere (by simp [hl]), State.leaveLink_failed hl]
    rfl
  case active =>
    rw [State.linkDisable_elsewhere (by simp [hl]), State.leaveLink_active hl]
    refine ⟨_, rfl, State.endSession_arrived hinv _ _, ?_, rfl, s.endSession_arrived_bus _ _ _⟩
    exact congrArg (fun σ : Session => { σ with link := .disabled }) s.endSession_over.session

/-- Settles O22, by the link state that is left. -/
theorem linkRestartSendsABreak : Obligations.LinkRestartSendsABreak := by
  intro s op hr
  rw [exec_linkRestart s op hr]
  refine ⟨fun hl => ?disabled, fun hl => ?syncing, fun hl => ?greeting, fun hl => ?failed, fun hl hinv => ?active⟩
  case disabled =>
    rw [State.linkRestart_disabled hl]
    exact congrArg _ (s.refuse_complete_eq .linkRestart 0 .linkBusy)
  case syncing =>
    rw [State.linkRestart_elsewhere (by simp [hl]), State.leaveLink_syncing hl, ← hl]
    rfl
  case greeting =>
    rw [State.linkRestart_elsewhere (by simp [hl]), State.leaveLink_greeting hl, State.abandonGreeting_eq]
    rfl
  case failed =>
    rw [State.linkRestart_elsewhere (by simp [hl]), State.leaveLink_failed hl]
    rfl
  case active =>
    rw [State.linkRestart_elsewhere (by simp [hl]), State.leaveLink_active hl]
    refine ⟨_, rfl, State.endSession_arrived hinv _ _, ?_, rfl, s.endSession_arrived_bus _ _ _⟩
    exact congrArg (fun σ : Session => { σ with link := .syncing, syncCount := 0 }) s.endSession_over.session

end Sys2Proof.Machine
end

section
/-! PROOFS. From SYNCING to the session (spec/06, section 6.3): the SYNC count, and what a good HELLO makes of the state in
GREETING and in ACTIVE (R105, R110 to R117, R120). -/

namespace Sys2Proof.Machine

namespace State

variable {s : State}

/-! ### The SYNC count (R110, R111) -/

theorem takeCharacter_syncing (hl : s.session.link = .syncing) (v : Option Byte) :
    s.takeCharacter v = s.countSync v := by rw [takeCharacter, hl]

theorem countSync_other {v : Option Byte} (hv : v ≠ some 0xD2#8) :
    s.countSync v = s.setSession { s.session with syncCount := 0 } := if_neg hv

/-- A good SYNC is counted up to the third, and the fourth enters GREETING. -/
theorem countSync_sync (s : State) :
    s.countSync (some 0xD2#8) = if 4 ≤ s.session.syncCount + 1 then s.enterGreeting
      else s.setSession { s.session with syncCount := s.session.syncCount + 1 } := if_pos rfl

end State

/-- Settles O34, by the character and then by the SYNC count. -/
theorem fourthSyncEntersGreeting : Obligations.FourthSyncEntersGreeting := by
  intro s c hr hl
  rw [exec_character s c hr, State.takeCharacter_syncing hl]
  refine ⟨fun hv => ?other, fun hv hcount => ?counted, fun hv hcount => ?fourth⟩
  case other =>
    rw [State.countSync_other hv]
    rfl
  case counted =>
    rw [hv, s.countSync_sync, if_neg (by omega)]
    rfl
  case fourth => rw [hv, s.countSync_sync, if_pos (by omega), State.enterGreeting_eq]

/-! ### A HELLO outside a reset -/

theorem exec_hello (s : State) (heard : Bool) (revision window epoch role : Byte) (h : s.resetting = none) :
    exec (.hello heard revision window epoch role) s =
      .next (s.goodFrame (.hello heard revision window epoch role)) :=
  exec_frame s (.hello heard revision window epoch role) h rfl

/-! ### A HELLO in GREETING (R112, R114, R116) -/

theorem helloValid_iff (revision window role : Byte) :
    helloValid revision window role = true ↔ revision = 2 ∧ 1 ≤ window.toNat ∧ window.toNat ≤ 8 ∧ role = 2 := by
  simp only [helloValid, Bool.and_eq_true, decide_eq_true_eq, and_assoc]
  rfl

namespace State

variable {s : State}

/-- The smaller of the two windows is agreed (R112). -/
theorem recordHello_eq (s : State) (window epoch : Byte) :
    s.recordHello window epoch = { s with
      session := { s.session with
        peerEpoch := epoch, heard := true
        agreed := BitVec.ofNat 4 (min window.toNat s.regs.linkCfg.window.toNat) } } := by
  have hagreed : (if window.toNat ≤ s.regs.linkCfg.window.toNat then window.setWidth 4
      else s.regs.linkCfg.window) = BitVec.ofNat 4 (min window.toNat s.regs.linkCfg.window.toNat) := by
    split
    next hle => rw [Nat.min_eq_left hle, BitVec.ofNat_toNat]
    next hgt => rw [Nat.min_eq_right (by omega), BitVec.ofNat_toNat, BitVec.setWidth_eq]
  exact congrArg (fun w : BitVec 4 => s.setSession { s.session with
    peerEpoch := epoch, heard := true, agreed := w }) hagreed

section
variable (heard : Bool) {revision window role : Byte} (epoch : Byte)

theorem greetHello_valid (h : helloValid revision window role = true) :
    s.greetHello heard revision window epoch role =
      if heard then (s.recordHello window epoch).startSession else s.recordHello window epoch := if_pos h

theorem greetHello_invalid (h : ¬ helloValid revision window role = true) :
    s.greetHello heard revision window epoch role = s.enterFailed .paramMismatch := if_neg h

end

/-! ### A HELLO in ACTIVE (R115, R117) -/

theorem activeHello_same {epoch : Byte} (h : epoch = s.session.peerEpoch) : s.activeHello epoch = s := if_pos h

theorem activeHello_other {epoch : Byte} (h : epoch ≠ s.session.peerEpoch) :
    s.activeHello epoch = s.enterFailed .peerRestart := if_neg h

end State

/-- Settles O38, by the validity of the HELLO and then by its HEARD. -/
theorem helloInGreetingRecordsOrStarts : Obligations.HelloInGreetingRecordsOrStarts := by
  intro s heard revision window epoch role hr hl valid agreed
  have hvalid : helloValid revision window role = true ↔ valid := helloValid_iff revision window role
  have hgreet : s.goodFrame (.hello heard revision window epoch role) =
      s.inHunt.greetHello heard revision window epoch role := State.goodFrame_greeting hl _
  rw [exec_hello s _ _ _ _ _ hr, hgreet]
  refine ⟨fun hv hheard => ?recorded, fun hv hheard => ?started, fun hv => ?mismatch⟩
  case recorded =>
    rw [State.greetHello_valid heard epoch (hvalid.2 hv), hheard, State.recordHello_eq]
    rfl
  case started =>
    rw [State.greetHello_valid heard epoch (hvalid.2 hv), hheard, if_pos rfl, State.startSession_eq,
      State.recordHello_eq]
    rfl
  case mismatch =>
    rw [State.greetHello_invalid heard epoch (mt hvalid.1 hv), State.enterFailed_greeting (s := s.inHunt) hl]
    rfl

/-- Settles O39: the HELLO is taken off the line first, which makes no difference to the session that it may end. -/
theorem helloInActiveIsComparedByEpoch : Obligations.HelloInActiveIsComparedByEpoch := by
  intro s heard revision window epoch role hr hl
  have hactive : s.goodFrame (.hello heard revision window epoch role) = s.goodTaken.activeHello epoch :=
    State.goodFrame_active hl _
  rw [exec_hello s _ _ _ _ _ hr, hactive]
  refine ⟨fun he => ?same, fun he hinv => ⟨_, rfl, ?other⟩⟩
  case same => rw [State.activeHello_same (s := s.goodTaken) he]
  case other =>
    rw [State.activeHello_other (s := s.goodTaken) he]
    have hfailed : SessionFailed s.goodTaken (s.goodTaken.enterFailed .peerRestart) .peerRestart :=
      State.enterFailed_sessionFailed (s := s.goodTaken) hinv.place hinv.slot hinv.session hl .peerRestart
    exact State.sessionFailed_of_setReceiver hfailed rfl

end Sys2Proof.Machine
end

section
/-! PROOFS. The retry count and the acknowledgment timer (spec/07): what every step keeps of the Window, and a
retransmission that is counted, or that ends the session past RETRIES (R132, R133). -/

namespace Sys2Proof.Machine

/-- Settles O59: the law of the Window is kept by the command that the step takes. -/
theorem everyStepKeepsTheWindow : Obligations.EveryStepKeepsTheWindow :=
  fun s t hcfg hsession hwindow h => (step_keeps s t h).window hcfg hsession hwindow

theorem exec_acknowledgmentTimerExpiry (s : State) (h : s.resetting = none) :
    exec .acknowledgmentTimerExpiry s = .next s.ackTimerExpiry :=
  congrArg _ (s.unlessReset_none State.ackTimerExpiry h)

namespace State

variable {s t : State}

/-- What the retry count and the timer hold makes no difference to session end. -/
theorem endOutcome_of_setWindow {w : Window} (h : SessionEndOutcome (s.setWindow w) t)
    (hrecords : w.records = s.window.records) (hnext : w.next = s.window.next) : SessionEndOutcome s t := by
  obtain ⟨records, next, retry, timer⟩ := w
  obtain rfl : records = s.window.records := hrecords
  obtain rfl : next = s.window.next := hnext
  exact ⟨h.window, h.delivered, h.replies, h.arbiter, h.receiver, h.sources, h.queue, h.notes, h.regs, h.rest⟩

theorem sessionFailed_of_setWindow {w : Window} {cause : FaultCause} (h : SessionFailed (s.setWindow w) t cause)
    (hrecords : w.records = s.window.records) (hnext : w.next = s.window.next) : SessionFailed s t cause := by
  obtain ⟨hend, hsession, htx, hbus⟩ := h
  exact ⟨endOutcome_of_setWindow hend hrecords hnext, hsession, htx, hbus⟩

/-! ### A retransmission counted (R133) -/

theorem countRetry_within (p : Option SeqNum) (h : s.window.retry < s.regs.linkCfg.retries.toNat) :
    s.countRetry p =
      (s.setArbiter { s.arbiter with resend := p }).setWindow
        { s.window with retry := s.window.retry + 1, timer := some s.now } := if_neg (by simpa using h)

theorem countRetry_past (p : Option SeqNum) (h : s.window.retry = s.regs.linkCfg.retries.toNat) :
    s.countRetry p = (s.setWindow { s.window with retry := s.window.retry + 1 }).enterFailed .retryLimit :=
  if_pos (by simp [h])

/-- Past RETRIES the session of a lawful device ends. -/
theorem countRetry_sessionFailed (hplace : s.PlaceLaw) (hslot : s.SlotLaw) (hsession : s.SessionLaw)
    (hl : s.session.link = .active) (p : Option SeqNum) (h : s.window.retry = s.regs.linkCfg.retries.toNat) :
    SessionFailed s (s.countRetry p) .retryLimit := by
  rw [countRetry_past p h]
  exact sessionFailed_of_setWindow (enterFailed_sessionFailed
    (s := s.setWindow { s.window with retry := s.window.retry + 1 }) hplace hslot hsession hl .retryLimit) rfl rfl

/-! ### The acknowledgment timer (R131, R132) -/

/-- Outside ACTIVE the timer stands stopped. -/
theorem WindowLaw.active_of_timer (h : s.WindowLaw) (ht : s.window.timer ≠ none) : s.session.link = .active := by
  by_contra hl
  exact ht (h.emptied hl).timer

theorem ackTimerExpiry_stopped (h : s.window.timer = none) : s.ackTimerExpiry = s := if_neg (by simp [h])

theorem ackTimerExpiry_running (hl : s.session.link = .active) (h : s.window.timer ≠ none) {r : FrameRecord}
    {rs : List FrameRecord} (hr : s.window.records = r :: rs) : s.ackTimerExpiry = s.countRetry (some r.seq) := by
  rw [ackTimerExpiry, if_pos ⟨hl, Option.isSome_iff_ne_none.2 h⟩, Window.oldest, hr]
  rfl

end State

/-- Settles O44: the timer runs in ACTIVE alone, and its expiry counts a retransmission from the oldest record. -/
theorem ackTimerExpiryResendsFromTheOldest : Obligations.AckTimerExpiryResendsFromTheOldest := by
  intro s hr hs
  rw [exec_acknowledgmentTimerExpiry s hr]
  refine ⟨fun ht => congrArg _ (State.ackTimerExpiry_stopped ht), fun r rs ht hrecords => ?_⟩
  have hl := hs.window.active_of_timer ht
  rw [State.ackTimerExpiry_running hl ht hrecords]
  refine ⟨fun hretry => ?within, fun hretry => ⟨_, rfl, ?past⟩⟩
  case within => rw [State.countRetry_within _ hretry]; rfl
  case past => exact State.countRetry_sessionFailed hs.place hs.slot hs.session hl _ hretry

end Sys2Proof.Machine
end

section
/-! PROOFS. Sequenced frames that are not consumed (spec/07): duplicates, frames ahead of the expected number, and
expected frames whose consumer has no room (R138, R141, R142, R143). -/

namespace Sys2Proof.Machine

namespace State

variable {s : State} {n : SeqNum} {room : Bool} {consume : State → State}

theorem sequenced_duplicate (h : 32 ≤ (n - s.receiver.expected).toNat) :
    s.sequenced n room consume = s.duplicate := by
  have hne : n ≠ s.receiver.expected := by
    rintro rfl
    simp at h
  rw [sequenced, classify_eq, if_neg hne, if_pos h]

theorem sequenced_ahead (hlow : 1 ≤ (n - s.receiver.expected).toNat) (hhigh : (n - s.receiver.expected).toNat ≤ 31) :
    s.sequenced n room consume = s.ahead := by
  have hne : n ≠ s.receiver.expected := by
    rintro rfl
    simp at hlow
  rw [sequenced, classify_eq, if_neg hne, if_neg (by omega)]

theorem sequenced_deferred (hn : n = s.receiver.expected) (hroom : room = false) :
    s.sequenced n room consume = s.count .inboundDeferred := by
  rw [sequenced, hn, classify_self, hroom]
  rfl

end State

/-- Settles O45: each sequenced frame is offered to its consumer by its class alone, and a consumer without room is not
asked. -/
theorem sequenceClassDecidesTheFrame : Obligations.SequenceClassDecidesTheFrame := by
  intro s f n hr hl hf hkind
  obtain ⟨room, consume, hframe, hroom⟩ : ∃ room consume,
      s.goodTaken.activeFrame f = s.goodTaken.sequenced n room consume ∧
      (n = s.receiver.expected → (∀ oldest v, f ≠ .complete n oldest v) → room = false) := by
    rcases hkind with ⟨oldest, v, rfl⟩ | ⟨tag, data, rfl, hfull⟩ | ⟨tag, op, first, count, rfl, hfull⟩
    · exact ⟨true, fun t => t.takeCompletion oldest v, rfl, fun _ h => absurd rfl (h oldest v)⟩
    · exact ⟨decide (s.notes.fifo.length < Config.fifoSize), fun t => t.takeNote tag data, rfl,
        fun hn _ => decide_eq_false (Nat.not_lt.2 (hfull hn))⟩
    · exact ⟨decide (s.replies.length < Config.replyQueueSize), fun t => t.takeControl tag op first count, rfl,
        fun hn _ => decide_eq_false (Nat.not_lt.2 (hfull hn))⟩
  rw [exec_frame s f hr hf, State.goodFrame_active hl, hframe]
  refine ⟨fun h => ?duplicate, fun hlow hhigh => ?ahead, fun hn hother => ?deferred⟩
  case duplicate => rw [State.sequenced_duplicate (s := s.goodTaken) h, State.duplicate_eq]; rfl
  case ahead => rw [State.sequenced_ahead (s := s.goodTaken) hlow hhigh, State.ahead_eq]; rfl
  case deferred => rw [State.sequenced_deferred (s := s.goodTaken) hn (hroom hn hother), State.count_eq]; rfl

end Sys2Proof.Machine
end

section
/-! PROOFS. Acknowledged records (spec/07): what each makes of its source, the Delivered List, the Event Queue and its
slot (R52, R53, R128, R162, R175), and what a good ACK and a good NAK make of the session (R127, R129). No two records are of
one source, so each is acknowledged as its source stood. -/

namespace Sys2Proof.Machine

namespace State

variable {s t : State} {n : SourceId}

/-! ### One source acknowledged (R52, R53) -/

/-- Whether the acknowledgment of source n delivers its PENDING edges in a new message. -/
def flushes (s : State) (n : SourceId) : Bool :=
  !(s.src n).sense.isLevel && decide ((s.src n).hold = 0) && decide ((s.src n).pending ≠ 0) && !(s.src n).mask

/-- The message that delivers the PENDING edges of source n. -/
def pendingMessage (s : State) (n : SourceId) : Message :=
  s.edgeMessage n (s.src n).pending (s.src n).pendOvr false

theorem flushes_congr (h : t.src n = s.src n) : t.flushes n = s.flushes n := by simp only [flushes, h]

theorem pendingMessage_congr (h : t.src n = s.src n) : t.pendingMessage n = s.pendingMessage n := by
  simp only [pendingMessage, edgeMessage, h]

theorem ackedEntry_congr (h : t.src n = s.src n) (hnow : t.now = s.now) : t.ackedEntry n = s.ackedEntry n := by
  simp only [ackedEntry, h, hnow]

theorem flushes_level (hl : (s.src n).sense.isLevel = true) : s.flushes n = false := by simp [flushes, hl]

theorem flushes_hold (hh : (s.src n).hold ≠ 0) : s.flushes n = false := by
  rw [flushes, decide_eq_false hh]
  simp

theorem flushes_iff (hl : (s.src n).sense.isLevel = false) (hh : (s.src n).hold = 0) :
    s.flushes n = true ↔ (s.src n).pending ≠ 0 ∧ (s.src n).mask = false := by
  rw [flushes, hl, decide_eq_true hh]
  simp

theorem ackedEntry_level (hl : (s.src n).sense.isLevel = true) :
    s.ackedEntry n = { s.src n with state := .delivered } := if_pos hl

theorem ackedEntry_hold (hl : (s.src n).sense.isLevel = false) (hh : (s.src n).hold ≠ 0) :
    s.ackedEntry n = { s.src n with state := .holdoff, holdoff := some s.now } := by
  rw [ackedEntry, hl, if_neg Bool.false_ne_true, if_pos hh]

theorem ackedEntry_edge (hl : (s.src n).sense.isLevel = false) (hh : (s.src n).hold = 0) :
    s.ackedEntry n =
      { s.src n with pending := 0, pendOvr := false, state := if s.flushes n then .queued else .idle } := by
  rw [ackedEntry, hl, if_neg Bool.false_ne_true, if_neg (not_not.2 hh)]
  exact congrArg (fun x : Delivery => { s.src n with pending := 0, pendOvr := false, state := x })
    (if_congr (flushes_iff hl hh).symm rfl rfl)

/-- PENDING edges delivered by a new message (R53 with HOLD 0). -/
theorem flushPending_eq_ite (hl : (s.src n).sense.isLevel = false) (hh : (s.src n).hold = 0) :
    s.flushPending n =
      if s.flushes n then
        (s.setSrc n { s.src n with pending := 0, pendOvr := false, state := .idle }).placed (s.pendingMessage n)
      else s.setSrc n { s.src n with pending := 0, pendOvr := false, state := .idle } := by
  rw [flushPending_eq s n hl]
  exact if_congr (flushes_iff hl hh).symm rfl rfl

/-- An acknowledgment sets the entry of its source, puts it on the Delivered List for class LEVEL, and delivers its
PENDING edges for class EDGE with HOLD 0. -/
theorem ackSource_eq (s : State) (n : SourceId) :
    s.ackSource n = { s with
      sources := s.sources.set n.val (s.ackedEntry n) n.isLt
      delivered := s.delivered ++ if (s.src n).sense.isLevel then [n] else []
      queue := if s.flushes n then s.queue.append (s.pendingMessage n) else s.queue } := by
  by_cases hl : (s.src n).sense.isLevel = true
  · rw [ackSource_level s n hl, ackedEntry_level hl, flushes_level hl, hl]
    rfl
  · rw [Bool.not_eq_true] at hl
    by_cases hh : (s.src n).hold = 0
    · rw [ackSource_edge s n hl hh, flushPending_eq_ite hl hh, ackedEntry_edge hl hh, hl]
      cases s.flushes n with
      | false => simp [setSrc]
      | true => simp [placed, setSrc, pendingMessage, edgeMessage, EventQueue.append, src]
    · rw [ackSource_hold s n hl hh, ackedEntry_hold hl hh, flushes_hold hh, hl]
      simp

theorem ackSource_src (s : State) (n k : SourceId) :
    (s.ackSource n).src k = if k = n then s.ackedEntry n else s.src k := by
  rw [ackSource_eq]
  exact setSrc_src s n k _

theorem ackSource_queue (s : State) (n : SourceId) (c : Fin 4) :
    (s.ackSource n).queue[c.val] =
      s.queue[c.val] ++ if s.flushes n && decide ((s.src n).prio = c) then [s.pendingMessage n] else [] := by
  rw [ackSource_eq]
  cases s.flushes n with
  | false => exact (List.append_nil _).symm
  | true =>
    rw [if_pos rfl, Bool.true_and]
    exact (s.placed_queue (s.pendingMessage n) c).trans (congrArg _ (if_congr decide_eq_true_iff.symm rfl rfl))

/-! ### Records acknowledged (R128) -/

/-- From s to t the sources and slots of some records are acknowledged, the first the oldest, and nothing else
changes. -/
structure Acknowledged (s t : State) (ns : List SourceId) (ks : List SlotId) : Prop where
  src : ∀ n, t.src n = if n ∈ ns then s.ackedEntry n else s.src n
  delivered : t.delivered = s.delivered ++ ns.filter fun n => (s.src n).sense.isLevel
  queue : ∀ c : Fin 4, t.queue[c.val] = s.queue[c.val] ++
    (ns.filter fun n => s.flushes n && decide ((s.src n).prio = c)).map s.pendingMessage
  slots : ∀ j : SlotId, t.notes.slots[j.val] = if j ∈ ks then .free else s.notes.slots[j.val]
  regs : t.regs = if ks = [] then s.regs else { s.regs with cause := s.regs.cause ||| 0x08#8 }
  rest : t = { s with
    sources := t.sources, delivered := t.delivered, queue := t.queue
    notes := { s.notes with slots := t.notes.slots }, regs := t.regs }

theorem Acknowledged.refl (s : State) : Acknowledged s s [] [] where
  src _ := rfl
  delivered := (List.append_nil _).symm
  queue _ := (List.append_nil _).symm
  slots _ := rfl
  regs := rfl
  rest := rfl

/-- A source acknowledged before others. -/
theorem Acknowledged.source {ns : List SourceId} {ks : List SlotId} (h : Acknowledged (s.ackSource n) t ns ks)
    (hn : n ∉ ns) : Acknowledged s t (n :: ns) ks := by
  have hsame {k : SourceId} (hk : k ∈ ns) : (s.ackSource n).src k = s.src k := by
    rw [ackSource_src, if_neg (ne_of_mem_of_not_mem hk hn)]
  have hnotes : (s.ackSource n).notes = s.notes := by rw [ackSource_eq]
  have hregs : (s.ackSource n).regs = s.regs := by rw [ackSource_eq]
  have hnow : (s.ackSource n).now = s.now := by rw [ackSource_eq]
  refine ⟨fun k => ?src, ?delivered, fun c => ?queue, fun j => ?slots, ?regs, ?rest⟩
  case src =>
    rw [h.src]
    by_cases hk : k ∈ ns
    · rw [if_pos hk, if_pos (List.mem_cons_of_mem n hk), ackedEntry_congr (hsame hk) hnow]
    · rw [if_neg hk, ackSource_src]
      by_cases hkn : k = n <;> simp [hkn, hk]
  case delivered =>
    have hkeep : (ns.filter fun k => ((s.ackSource n).src k).sense.isLevel) =
        ns.filter fun k => (s.src k).sense.isLevel :=
      List.filter_congr fun k hk => by rw [hsame hk]
    rw [h.delivered, hkeep, ackSource_eq, List.append_assoc, List.filter_cons]
    cases (s.src n).sense.isLevel <;> rfl
  case queue =>
    have hkeep : (ns.filter fun k => (s.ackSource n).flushes k && decide (((s.ackSource n).src k).prio = c)) =
        ns.filter fun k => s.flushes k && decide ((s.src k).prio = c) :=
      List.filter_congr fun k hk => by rw [flushes_congr (hsame hk), hsame hk]
    have hmessages (p : SourceId → Bool) :
        (ns.filter p).map (s.ackSource n).pendingMessage = (ns.filter p).map s.pendingMessage :=
      List.map_congr_left fun k hk => pendingMessage_congr (hsame (List.mem_filter.1 hk).1)
    rw [h.queue, hkeep, hmessages, ackSource_queue, List.append_assoc, List.filter_cons]
    cases s.flushes n && decide ((s.src n).prio = c) <;> rfl
  case slots => rw [h.slots, hnotes]
  case regs => rw [h.regs, hregs]
  case rest =>
    refine h.rest.trans ?_
    rw [ackSource_eq]

/-- A slot freed before others (R162). -/
theorem Acknowledged.slot {ns : List SourceId} {ks : List SlotId} {k : SlotId}
    (h : Acknowledged ((s.setNotes { s.notes with slots := s.notes.slots.set k.val .free }).raiseFlag .noteSlot)
      t ns ks) : Acknowledged s t ns (k :: ks) := by
  refine ⟨h.src, h.delivered, h.queue, fun j => ?slots, ?regs, h.rest⟩
  case slots =>
    rw [h.slots]
    change (if j ∈ ks then Slot.free else (s.notes.slots.set k.val .free)[j.val]) = _
    rw [Vector.getElem_set]
    by_cases hj : k = j
    · simp [hj]
    · simp [Fin.val_ne_of_ne hj, Ne.symm hj]
  case regs =>
    rw [h.regs, raiseFlag_eq, flagMask_eq]
    simp [withCause, BitVec.or_assoc]

theorem foldl_ackRecord (s : State) (rs : List FrameRecord)
    (hnodup : (rs.filterMap fun r => r.body.eventSource).Nodup) :
    Acknowledged s (rs.foldl ackRecord s) (rs.filterMap fun r => r.body.eventSource)
      (rs.filterMap fun r => r.body.noteSlot) := by
  induction rs generalizing s with
  | nil => exact .refl s
  | cons r rs ih =>
    obtain ⟨seq, body⟩ := r
    cases body with
    | event m =>
      obtain ⟨hm, hrest⟩ := List.nodup_cons.1 hnodup
      exact (ih _ hrest).source hm
    | note k x => exact (ih _ hnodup).slot
    | reply p => exact ih _ hnodup

/-- The records that leave the Window are acknowledged (R128). -/
theorem removeAcked_outcome (hplace : s.PlaceLaw) (k : Nat) : AckedOutcome s (s.removeAcked k) k := by
  have hlink := s.removeAcked_sameLink k
  obtain ⟨-, hsent, -⟩ := hplace
  have h : Acknowledged _ (s.removeAcked k) _ _ :=
    foldl_ackRecord (s.setWindow { s.window with records := s.window.records.drop k }) (s.window.records.take k)
      (hsent.sublist ((List.take_sublist k _).filterMap _))
  exact
    { records := congrArg Window.records hlink.window
      sources := h.src
      delivered := h.delivered
      queue := h.queue
      slots := h.slots
      cause := h.regs
      rest := by
        refine h.rest.trans ?_
        rw [hlink.window, hlink.arbiter, hlink.receiver]
        rfl }

/-- The records of a good frame's ACK or NAK leave the Window, and of the link nothing else changes. -/
theorem goodTaken_removeAcked (hplace : s.PlaceLaw) (k : Nat) :
    AckedOutcome s (s.goodTaken.removeAcked k) k ∧
      (s.goodTaken.removeAcked k).window = { s.window with records := s.window.records.drop k } ∧
      (s.goodTaken.removeAcked k).arbiter = s.arbiter ∧
      (s.goodTaken.removeAcked k).receiver = s.goodTaken.receiver := by
  have hlink := s.goodTaken.removeAcked_sameLink k
  have h : AckedOutcome s.goodTaken (s.goodTaken.removeAcked k) k := removeAcked_outcome (s := s.goodTaken) hplace k
  exact ⟨⟨h.records, h.sources, h.delivered, h.queue, h.slots, h.cause, h.rest⟩, hlink.window, hlink.arbiter,
    hlink.receiver⟩

/-- The Receiver, the Arbiter, the retry count and the timer are no part of what acknowledged records make of the
state. -/
theorem ackedOutcome_setLink {k : Nat} (h : AckedOutcome s t k) (r : Receiver) (a : Arbiter) (w : Window)
    (hw : w.records = t.window.records) : AckedOutcome s (((t.setReceiver r).setArbiter a).setWindow w) k where
  records := hw.trans h.records
  sources := h.sources
  delivered := h.delivered
  queue := h.queue
  slots := h.slots
  cause := h.cause
  rest := congrArg (fun u : State => ((u.setReceiver r).setArbiter a).setWindow w) h.rest

end State

/-! ### Numbers of the Window (R124) -/

theorem Window.consecutive.holds_seq {w : Window} (h : w.consecutive) (hlength : w.records.length < 64) {k : Nat}
    (hk : k < w.records.length) : w.holds w.records[k].seq = true := by
  rw [Window.holds, h.offset_seq hlength hk]
  exact decide_eq_true hk

theorem Window.consecutive.holds_other {w : Window} (h : w.consecutive) {n : SeqNum}
    (hn : ∀ r ∈ w.records, r.seq ≠ n) : ¬ w.holds n = true := fun hholds =>
  have ⟨r, hr, hseq⟩ := Window.exists_record_of_holds h hholds
  hn r hr hseq

/-- A resend point that names a record gone moves to the oldest that remains (R127). -/
theorem movedResend_eq (resend : Option SeqNum) (gone : List FrameRecord) (left : Window) :
    movedResend resend gone left =
      if gone.any fun r => decide (resend = some r.seq) then left.records.head?.map (·.seq) else resend := by
  cases resend with
  | none => simp [movedResend]
  | some p => simp only [movedResend, Option.some.injEq, eq_comm, Window.oldest]

namespace State

variable {s : State} {n : SeqNum}

/-! ### A good ACK (R127) -/

theorem takeAck_other (hw : s.window.consecutive) (hn : ∀ r ∈ s.window.records, r.seq ≠ n) : s.takeAck n = s :=
  if_neg (hw.holds_other hn)

theorem takeAck_record (hw : s.window.consecutive) (hlength : s.window.records.length < 64) {k : Nat}
    (hk : k < s.window.records.length) (hn : s.window.records[k].seq = n) :
    s.takeAck n =
      ((s.removeAcked (k + 1)).setArbiter { s.arbiter with
        resend := if (s.window.records.take (k + 1)).any fun r => decide (s.arbiter.resend = some r.seq) then
          (s.window.records.drop (k + 1)).head?.map (·.seq) else s.arbiter.resend }).setWindow
      { s.window with
        records := s.window.records.drop (k + 1), retry := 0
        timer := if s.window.records.drop (k + 1) = [] then none else some (s.removeAcked (k + 1)).now } := by
  have hlink := s.removeAcked_sameLink (k + 1)
  have hwindow : (s.removeAcked (k + 1)).window =
    { s.window with records := s.window.records.drop (k + 1) } := hlink.window
  have harbiter : (s.removeAcked (k + 1)).arbiter = s.arbiter := hlink.arbiter
  rw [← hn, takeAck, if_pos (hw.holds_seq hlength hk), hw.offset_seq hlength hk]
  simp only [setArbiter_window, setArbiter_now, hwindow, harbiter, movedResend_eq]

/-! ### A good NAK (R129, R133) -/

theorem takeNak_other (hw : s.window.consecutive) (hn : ∀ r ∈ s.window.records, r.seq ≠ n) : s.takeNak n = s :=
  if_neg (hw.holds_other hn)

theorem takeNak_record (hw : s.window.consecutive) (hlength : s.window.records.length < 64) {k : Nat}
    (hk : k < s.window.records.length) (hn : s.window.records[k].seq = n) :
    s.takeNak n = (s.removeAcked k).countRetry (some n) := by
  rw [← hn, takeNak, if_pos (hw.holds_seq hlength hk), hw.offset_seq hlength hk]

/-- The laws that session end asks for stand when the oldest records of a lawful Window have been acknowledged. -/
theorem Contents.removeAcked_laws (h : s.Contents) (k : Nat) :
    (s.removeAcked k).PlaceLaw ∧ (s.removeAcked k).SlotLaw := by
  have hrecords : (s.removeAcked k).window.records = s.window.records.drop k :=
    congrArg Window.records (s.removeAcked_sameLink k).window
  obtain ⟨htable, hslots⟩ := h.toCarrying.removeAcked k
  rw [← hrecords] at htable hslots
  exact ⟨((tableLaw_iff _).1 htable).1, (slotLaw_iff _).2 hslots⟩

/-- Acknowledged records leave the retry count and RETRIES as they stand. -/
theorem goodTaken_removeAcked_retries (s : State) (k : Nat) :
    (s.goodTaken.removeAcked k).window.retry = s.window.retry ∧
      (s.goodTaken.removeAcked k).regs.linkCfg.retries.toNat = s.regs.linkCfg.retries.toNat := by
  have hlink := s.goodTaken.removeAcked_sameLink k
  exact ⟨(congrArg Window.retry hlink.window :), congrArg (fun c : LinkCfg => c.retries.toNat) hlink.linkCfg⟩

/-- Records acknowledged by a NAK, and a retransmission counted within RETRIES. -/
theorem nak_within (hplace : s.PlaceLaw) (k : Nat) (p : Option SeqNum)
    (h : s.window.retry < s.regs.linkCfg.retries.toNat) :
    AckedOutcome s ((s.goodTaken.removeAcked k).countRetry p) k ∧
      ((s.goodTaken.removeAcked k).countRetry p).receiver = s.goodTaken.receiver ∧
      ((s.goodTaken.removeAcked k).countRetry p).window = { s.window with
        records := s.window.records.drop k, retry := s.window.retry + 1, timer := some s.now } ∧
      ((s.goodTaken.removeAcked k).countRetry p).arbiter = { s.arbiter with resend := p } := by
  obtain ⟨hacked, hwindow, harbiter, hreceiver⟩ := goodTaken_removeAcked hplace k
  obtain ⟨hretry, hretries⟩ := s.goodTaken_removeAcked_retries k
  have hnow : (s.goodTaken.removeAcked k).now = s.now := (congrArg State.now hacked.rest :)
  generalize s.goodTaken.removeAcked k = u at *
  rw [countRetry_within p (by omega)]
  refine ⟨ackedOutcome_setLink hacked u.receiver _ _ rfl, hreceiver, ?_, ?_⟩
  · simp [hwindow, hnow]
  · simp [harbiter]

/-- Past RETRIES the session ends as it stands when the records have been acknowledged. -/
theorem nak_past (hs : s.Inv) (hl : s.session.link = .active) (k : Nat) (p : Option SeqNum)
    (h : s.window.retry = s.regs.linkCfg.retries.toNat) :
    ∃ u, AckedOutcome s u k ∧ u.window = { s.window with records := s.window.records.drop k } ∧
      u.arbiter = s.arbiter ∧ u.receiver = s.receiver ∧
      SessionFailed u ((s.goodTaken.removeAcked k).countRetry p) .retryLimit := by
  obtain ⟨hacked, hwindow, harbiter, hreceiver⟩ := goodTaken_removeAcked hs.place k
  obtain ⟨hretry, hretries⟩ := s.goodTaken_removeAcked_retries k
  have hlink := s.goodTaken.removeAcked_sameLink k
  have hcontents : s.goodTaken.Contents := hs.contents.congr
  obtain ⟨hplace, hslot⟩ := hcontents.removeAcked_laws k
  have hsession : (s.goodTaken.removeAcked k).SessionLaw := hs.session.congr hlink.session
    (congrArg Arbiter.greetInterval harbiter) (congrArg Arbiter.helloDue harbiter) hlink.linkCfg
  have hactive : (s.goodTaken.removeAcked k).session.link = .active := (congrArg Session.link hlink.session).trans hl
  generalize s.goodTaken.removeAcked k = u at *
  have hexpected : u.receiver.expected = s.receiver.expected := (congrArg Receiver.expected hreceiver :)
  have hfailed := countRetry_sessionFailed hplace hslot hsession hactive p (by omega)
  exact ⟨u.setReceiver s.receiver, ackedOutcome_setLink hacked s.receiver u.arbiter u.window rfl, hwindow, harbiter,
    rfl, sessionFailed_of_setReceiver (s := u.setReceiver s.receiver) (r := u.receiver) hfailed hexpected⟩

end State

theorem exec_ack (s : State) (n : SeqNum) (hr : s.resetting = none) (hl : s.session.link = .active) :
    exec (.ack n) s = .next (s.goodTaken.takeAck n) :=
  (exec_frame s (.ack n) hr rfl).trans (congrArg _ (State.goodFrame_active hl _))

theorem exec_nak (s : State) (n : SeqNum) (hr : s.resetting = none) (hl : s.session.link = .active) :
    exec (.nak n) s = .next (s.goodTaken.takeNak n) :=
  (exec_frame s (.nak n) hr rfl).trans (congrArg _ (State.goodFrame_active hl _))

/-- Settles O42: a number in the Window is that of one record, and the records up to it are acknowledged. -/
theorem ackRemovesTheNamedAndOlderRecords : Obligations.AckRemovesTheNamedAndOlderRecords := by
  intro s n hr hl hs
  have hlength := hs.window.length_lt
  obtain ⟨hconsecutive, -⟩ := hs.window
  rw [exec_ack s n hr hl]
  refine ⟨fun k hk hn => ⟨_, rfl, ?_⟩, fun hn => congrArg _ (State.takeAck_other (s := s.goodTaken) hconsecutive hn)⟩
  obtain ⟨hacked, hwindow, -, hreceiver⟩ := State.goodTaken_removeAcked hs.place (k + 1)
  have hnow : (s.goodTaken.removeAcked (k + 1)).now = s.now := (congrArg State.now hacked.rest :)
  rw [State.takeAck_record (s := s.goodTaken) hconsecutive hlength hk hn, hnow]
  exact ⟨State.ackedOutcome_setLink hacked _ _ _ (congrArg Window.records hwindow).symm, hreceiver, rfl, rfl⟩

/-- Settles O43: the records before the named one are acknowledged, and a retransmission from it is counted. -/
theorem nakResendsFromTheNamedRecord : Obligations.NakResendsFromTheNamedRecord := by
  intro s n hr hl hs
  have hlength := hs.window.length_lt
  obtain ⟨hconsecutive, -⟩ := hs.window
  rw [exec_nak s n hr hl]
  refine ⟨fun k hk hn => ?_, fun hn => congrArg _ (State.takeNak_other (s := s.goodTaken) hconsecutive hn)⟩
  rw [State.takeNak_record (s := s.goodTaken) hconsecutive hlength hk hn]
  refine ⟨fun hretry => ⟨_, rfl, State.nak_within hs.place k _ hretry⟩, fun hretry => ?_⟩
  obtain ⟨u, hacked, hwindow, harbiter, hreceiver, hfailed⟩ := State.nak_past hs hl k (some n) hretry
  exact ⟨u, _, rfl, hacked, hwindow, harbiter, hreceiver, hfailed⟩

end Sys2Proof.Machine
end

section
/-! PROOFS. Completions (spec/08): what a release makes of its source and the Event Queue, the entries that a Completion
releases, and the record of one that matches nothing (R56, R148 to R151). No source stands on the Delivered List twice,
so each is released as it stood. -/

namespace Sys2Proof.Machine

namespace State

variable {s t : State} {n : SourceId}

/-! ### One source released (R56) -/

/-- The entry of a DELIVERED source after its release. -/
def releasedEntry (s : State) (n : SourceId) : Source :=
  if (s.src n).hold ≠ 0 then { s.src n with state := .holdoff, holdoff := some s.now }
  else { s.src n with state := if s.asserts n then .queued else .idle }

/-- Whether the release of source n queues a new message of it. -/
def rejoins (s : State) (n : SourceId) : Bool := decide ((s.src n).hold = 0) && decide (s.asserts n)

theorem SameSource.asserts_eq (h : SameSource s t n) : t.asserts n = s.asserts n := by
  simp only [asserts, h.src, h.level]

theorem SameSource.rejoins_eq (h : SameSource s t n) : t.rejoins n = s.rejoins n := by
  simp only [rejoins, h.src, h.asserts_eq]

theorem SameSource.releasedEntry_eq (h : SameSource s t n) (hnow : t.now = s.now) :
    t.releasedEntry n = s.releasedEntry n := by
  simp only [releasedEntry, h.src, h.asserts_eq, hnow]

/-- What re-evaluation asks of a source does not depend on its STATE. -/
theorem setSrc_idle_asserts (s : State) (n : SourceId) :
    (s.setSrc n { s.src n with state := .idle }).asserts n ↔ s.asserts n := by
  have hlevel : (s.setSrc n { s.src n with state := .idle }).qualified n = s.qualified n :=
    qualified_congr rfl rfl (by rw [setSrc_src_self])
  rw [asserts, hlevel, setSrc_src_self]

/-- A release sets the entry of its source, and with HOLD 0 queues an asserted source. -/
theorem releaseSource_eq_with (s : State) (n : SourceId) :
    s.releaseSource n = { s with
      sources := s.sources.set n.val (s.releasedEntry n) n.isLt
      queue := if s.rejoins n then s.queue.append (s.levelMessage n false) else s.queue } := by
  by_cases hh : (s.src n).hold = 0
  · have heq : s.releaseSource n = (s.setSrc n { s.src n with state := .idle }).checked n false :=
      (s.releaseSource_eq n).trans (if_neg (not_not.2 hh))
    rw [heq, checked, if_congr (s.setSrc_idle_asserts n) rfl rfl, rejoins, decide_eq_true hh, Bool.true_and,
      releasedEntry, if_neg (not_not.2 hh)]
    by_cases ha : s.asserts n
    · rw [if_pos ha, if_pos ha, if_pos (decide_eq_true ha)]
      simp [placed, setSrc, levelMessage, EventQueue.append, src]
    · rw [if_neg ha, if_neg ha, if_neg (ha ∘ of_decide_eq_true)]
      rfl
  · rw [releaseSource_eq, if_pos hh, rejoins, releasedEntry, if_pos hh, decide_eq_false hh]
    rfl

theorem releaseSource_src (s : State) (n k : SourceId) :
    (s.releaseSource n).src k = if k = n then s.releasedEntry n else s.src k := by
  rw [releaseSource_eq_with]
  exact setSrc_src s n k _

theorem releaseSource_queue (s : State) (n : SourceId) (c : Fin 4) :
    (s.releaseSource n).queue[c.val] =
      s.queue[c.val] ++ if s.rejoins n && decide ((s.src n).prio = c) then [s.levelMessage n false] else [] := by
  rw [releaseSource_eq_with]
  cases s.rejoins n with
  | false => exact (List.append_nil _).symm
  | true =>
    rw [if_pos rfl, Bool.true_and]
    exact (s.placed_queue (s.levelMessage n false) c).trans (congrArg _ (if_congr decide_eq_true_iff.symm rfl rfl))

/-! ### Sources released in list order (R149) -/

/-- From s to t the sources of a list are released in its order, and nothing else changes. -/
structure Released (s t : State) (ns : List SourceId) : Prop where
  src : ∀ n, t.src n = if n ∈ ns then s.releasedEntry n else s.src n
  queue : ∀ c : Fin 4, t.queue[c.val] = s.queue[c.val] ++
    (ns.filter fun n => s.rejoins n && decide ((s.src n).prio = c)).map fun n => s.levelMessage n false
  rest : t = { s with sources := t.sources, queue := t.queue }

theorem Released.sameSource {ns : List SourceId} (h : Released s t ns) (hn : n ∉ ns) : SameSource s t n :=
  .of_src ((h.src n).trans (if_neg hn)) (congrArg State.lines h.rest :) (congrArg State.softLevels h.rest :)

/-- One more source, not yet released, is released as it stood. -/
theorem Released.append_singleton {ns : List SourceId} (h : Released s t ns) (hn : n ∉ ns) :
    Released s (t.releaseSource n) (ns ++ [n]) := by
  have hsame := h.sameSource hn
  have hnow : t.now = s.now := (congrArg State.now h.rest :)
  refine ⟨fun k => ?src, fun c => ?queue, ?rest⟩
  case src =>
    rw [releaseSource_src, hsame.releasedEntry_eq hnow, h.src]
    by_cases hk : k = n <;> simp [hk]
  case queue =>
    rw [releaseSource_queue, h.queue, hsame.rejoins_eq, hsame.src, levelMessage_congr hsame.src, List.filter_append,
      List.map_append, List.append_assoc, List.filter_singleton]
    cases s.rejoins n && decide ((s.src n).prio = c) <;> rfl
  case rest =>
    rw [releaseSource_eq_with]
    exact congrArg (fun u : State => { u with
      sources := t.sources.set n.val (t.releasedEntry n) n.isLt
      queue := if t.rejoins n then t.queue.append (t.levelMessage n false) else t.queue }) h.rest

theorem foldl_releaseSource (s : State) (ns : List SourceId) (hnodup : ns.Nodup) :
    Released s (ns.foldl releaseSource s) ns := by
  induction ns using List.reverseRecOn with
  | nil => exact ⟨fun _ => rfl, fun _ => (List.append_nil _).symm, rfl⟩
  | append_singleton ns n ih =>
    obtain ⟨hn, hns⟩ := List.nodup_cons.1 (List.nodup_append_comm.1 hnodup)
    rw [List.foldl_append]
    exact (ih hns).append_singleton hn

/-! ### What a Completion matches (R148) -/

/-- The entries of a list leave the Delivered List, and their sources are released in its order. -/
def releaseAll (s : State) (ns : List SourceId) : State :=
  ns.foldl releaseSource (s.setDelivered (s.delivered.filter fun n => n ∉ ns))

variable {v : Byte}

/-- A specific Completion releases every entry of its vector (R149). -/
theorem takeCompletion_vector (h : (s.delivered.filter fun n => (s.src n).vector = v) ≠ []) :
    s.takeCompletion false v = s.releaseAll (s.delivered.filter fun n => (s.src n).vector = v) := by
  have hleft : (s.delivered.filter fun n => (s.src n).vector ≠ v) =
      s.delivered.filter fun n => n ∉ s.delivered.filter fun n => (s.src n).vector = v :=
    List.filter_congr fun n hn => by simp [hn]
  rw [takeCompletion, if_neg Bool.false_ne_true, if_neg h, releaseAll, ← hleft]

/-- An oldest Completion releases the first entry (R150). -/
theorem takeCompletion_oldest (hnodup : s.delivered.Nodup) (h : s.delivered.take 1 ≠ []) :
    s.takeCompletion true 0 = s.releaseAll (s.delivered.take 1) := by
  cases hd : s.delivered with
  | nil => simp [hd] at h
  | cons n rest =>
    obtain ⟨hn, -⟩ := List.nodup_cons.1 (hd ▸ hnodup)
    have hrest : (rest.filter fun k => k ∉ [n]) = rest :=
      List.filter_eq_self.2 fun k hk => by simpa using ne_of_mem_of_not_mem hk hn
    have hleft : (s.delivered.filter fun k => k ∉ [n]) = rest := by
      rw [hd, List.filter_cons_of_neg (by simp), hrest]
    rw [takeCompletion, if_pos rfl, if_neg (not_not.2 rfl), hd]
    exact congrArg (fun l => (s.setDelivered l).releaseSource n) hleft.symm

theorem takeCompletion_noMatch (h : ∀ n ∈ s.delivered, (s.src n).vector ≠ v) :
    s.takeCompletion false v = s.unmatchedCompletion v false .noMatch := by
  rw [takeCompletion, if_neg Bool.false_ne_true, if_pos (List.filter_eq_nil_iff.2 fun n hn => by simp [h n hn])]

theorem takeCompletion_listEmpty (h : s.delivered = []) :
    s.takeCompletion true 0 = s.unmatchedCompletion 0 true .listEmpty := by
  rw [takeCompletion, if_pos rfl, if_neg (not_not.2 rfl), h]

theorem takeCompletion_badOldest (h : v ≠ 0) :
    s.takeCompletion true v = s.unmatchedCompletion v true .badOldest := by
  rw [takeCompletion, if_pos rfl, if_pos h]

end State

/-- An expected COMPLETE is taken by the Delivered List, which always has room, and accepted (R139, R140). -/
theorem exec_complete_expected (s : State) (oldest : Bool) (v : Byte) (hr : s.resetting = none)
    (hl : s.session.link = .active) :
    exec (.complete s.receiver.expected oldest v) s =
      .next ((s.goodTaken.takeCompletion oldest v).acceptSequenced s.receiver.expected) :=
  calc exec (.complete s.receiver.expected oldest v) s
    _ = .next (s.goodFrame (.complete s.receiver.expected oldest v)) :=
      exec_frame s (.complete s.receiver.expected oldest v) hr rfl
    _ = .next (s.goodTaken.activeFrame (.complete s.receiver.expected oldest v)) :=
      congrArg _ (State.goodFrame_active hl _)
    _ = .next ((s.goodTaken.takeCompletion oldest v).acceptSequenced s.receiver.expected) :=
      congrArg _ (s.goodTaken.sequenced_expected fun t => t.takeCompletion oldest v)

/-- Settles O46: either kind of Completion releases a list without repeats, and what follows is the release of that list
and the acceptance of the frame. -/
theorem completionReleasesTheMatchedEntries : Obligations.CompletionReleasesTheMatchedEntries := by
  intro s oldest v released hr hl hs hne hmatch
  obtain ⟨-, -, hnodup, -⟩ := hs.place
  obtain ⟨htake, hreleased⟩ : s.goodTaken.takeCompletion oldest v = s.goodTaken.releaseAll released ∧
      released.Nodup := by
    rcases hmatch with ⟨rfl, rfl⟩ | ⟨rfl, rfl, rfl⟩
    · exact ⟨State.takeCompletion_vector (s := s.goodTaken) hne, hnodup.filter _⟩
    · exact ⟨State.takeCompletion_oldest (s := s.goodTaken) hnodup hne, hnodup.sublist (List.take_sublist 1 _)⟩
  rw [exec_complete_expected s oldest v hr hl, htake]
  have h : State.Released (s.goodTaken.setDelivered (s.delivered.filter fun n => n ∉ released))
      (s.goodTaken.releaseAll released) released := State.foldl_releaseSource _ released hreleased
  have hdelivered : (s.goodTaken.releaseAll released).delivered = s.delivered.filter fun n => n ∉ released :=
    (congrArg State.delivered h.rest :)
  have hrest := congrArg (fun u : State => u.acceptSequenced s.receiver.expected) h.rest
  exact ⟨_, rfl, hdelivered, h.src, h.queue, hrest.trans (congrArg (fun l : List SourceId => { s with
    delivered := l
    sources := (s.goodTaken.releaseAll released).sources
    queue := (s.goodTaken.releaseAll released).queue
    receiver := receiverAfter s.receiver.expected
    arbiter := s.receivedArbiter s.receiver.expected }) hdelivered.symm)⟩

/-- Settles O47: each of the three unmatched Completions is recorded, and accepted as any expected frame is. -/
theorem unmatchedCompletionIsRecorded : Obligations.UnmatchedCompletionIsRecorded := by
  intro s oldest v reason hr hl hunmatched
  have htake : s.goodTaken.takeCompletion oldest v = s.goodTaken.unmatchedCompletion v oldest reason := by
    rcases hunmatched with ⟨rfl, hnone, rfl⟩ | ⟨rfl, rfl, hempty, rfl⟩ | ⟨rfl, hv, rfl⟩
    · exact State.takeCompletion_noMatch (s := s.goodTaken) hnone
    · exact State.takeCompletion_listEmpty (s := s.goodTaken) hempty
    · exact State.takeCompletion_badOldest hv
  rw [exec_complete_expected s oldest v hr hl, htake, State.unmatchedCompletion_eq]
  rfl

end Sys2Proof.Machine
end

section
/-! PROOFS. The Note Unit's requests (spec/09): NOTE_SEND, NOTE_POP, NOTE_FLUSH, and what REGISTER_WRITE stages or
ignores (R159, R160, R163, R168, R178). -/

namespace Sys2Proof.Machine

/-! ### The lowest FREE slot (R160) -/

namespace NoteUnit

variable {u : NoteUnit}

theorem freeSlot_eq_find? (u : NoteUnit) :
    u.freeSlot = Fin.find? fun k : SlotId => decide (u.slots[k.val] = .free) :=
  Fin.find?_eq_find?_finRange.symm

theorem freeSlot_eq_none_iff : u.freeSlot = none ↔ ∀ k : SlotId, u.slots[k.val] ≠ .free := by
  rw [freeSlot_eq_find?, Fin.find?_eq_none_iff]
  exact forall_congr' fun _ => decide_eq_false_iff_not

theorem freeSlot_eq_some_iff {k : SlotId} :
    u.freeSlot = some k ↔ u.slots[k.val] = .free ∧ ∀ j : SlotId, j < k → u.slots[j.val] ≠ .free := by
  rw [freeSlot_eq_find?, Fin.find?_eq_some_iff]
  exact and_congr decide_eq_true_iff (forall₂_congr fun _ _ => decide_eq_false_iff_not)

end NoteUnit

/-! ### What each request does (R160, R163, R168) -/

namespace State

variable {s : State}

/-- NOTE_FULL is decided before the length. -/
theorem noteSend_full (h : s.notes.freeSlot = none) :
    s.noteSend = s.refuse .noteSend (s.notes.outLength.setWidth 16) .noteFull := by
  rw [noteSend, h]

theorem noteSend_badLength {k : SlotId} (h : s.notes.freeSlot = some k)
    (hlength : s.notes.outLength = 0 ∨ 9 ≤ s.notes.outLength.toNat) :
    s.noteSend = s.refuse .noteSend (s.notes.outLength.setWidth 16) .badValue := by
  rw [noteSend, h]
  exact if_pos hlength

theorem noteSend_taken {k : SlotId} (h : s.notes.freeSlot = some k)
    (hlow : 1 ≤ s.notes.outLength.toNat) (hhigh : s.notes.outLength.toNat ≤ 8) :
    s.noteSend = s.setNotes { s.notes with
      slots := s.notes.slots.set k.val (.waiting s.notes.staged), order := s.notes.order ++ [k] } := by
  have hlength : ¬(s.notes.outLength = 0 ∨ s.notes.outLength.toNat ≥ 9) := by
    rintro (hzero | hlong)
    · simp [hzero] at hlow
    · omega
  rw [noteSend, h]
  exact if_neg hlength

theorem notePop_empty (h : s.notes.fifo = []) : s.notePop = s.refuse .notePop 0 .empty := by
  rw [notePop, h]

theorem notePop_cons {n : Note} {rest : List Note} (h : s.notes.fifo = n :: rest) :
    s.notePop = s.setNotes { s.notes with fifo := rest } := by
  rw [notePop, h]

end State

/-! ### The commands outside a reset -/

theorem exec_noteSend (s : State) (op : Byte) (h : s.resetting = none) :
    exec (.noteSend op) s = .next s.noteSend.ready :=
  congrArg _ (s.onBus_none _ State.noteSend h)

theorem exec_notePop (s : State) (op : Byte) (h : s.resetting = none) :
    exec (.notePop op) s = .next s.notePop.ready :=
  congrArg _ (s.onBus_none _ State.notePop h)

theorem exec_noteFlush (s : State) (op : Byte) (h : s.resetting = none) :
    exec (.noteFlush op) s = .next s.noteFlush.ready :=
  congrArg _ (s.onBus_none _ State.noteFlush h)

/-- Settles O17: whether there is a lowest FREE slot is decided first, then the length. -/
theorem noteSendFillsTheLowestFreeSlot : Obligations.NoteSendFillsTheLowestFreeSlot := by
  intro s op hr
  rw [exec_noteSend s op hr]
  refine ⟨fun hfull => ?full, fun k hfree hlowest => ?free⟩
  case full =>
    rw [State.noteSend_full (NoteUnit.freeSlot_eq_none_iff.2 hfull)]
    rfl
  case free =>
    have hslot : s.notes.freeSlot = some k := NoteUnit.freeSlot_eq_some_iff.2 ⟨hfree, hlowest⟩
    refine ⟨fun hlength => ?_, fun hlow hhigh => ?_⟩
    · rw [State.noteSend_badLength hslot hlength]
      rfl
    · rw [State.noteSend_taken hslot hlow hhigh]
      rfl

/-- Settles O18, by the two forms of the inbound FIFO and the three states of a slot. -/
theorem notePopAndNoteFlushDropNotes : Obligations.NotePopAndNoteFlushDropNotes := by
  intro s op hr
  rw [exec_notePop s op hr, exec_noteFlush s op hr]
  refine ⟨fun hempty => ?empty, fun n rest hcons => ?head, ?flush⟩
  case empty =>
    rw [State.notePop_empty hempty]
    rfl
  case head =>
    rw [State.notePop_cons hcons]
    rfl
  case flush =>
    refine congrArg (fun f : Slot → Slot => Host.Outcome.next
      { s.ready with notes := { s.notes with slots := s.notes.slots.map f, order := [] } }) (funext fun x => ?_)
    cases x with
    | free => rfl
    | waiting n => rfl
    | inFlight n => rfl

/-! ### REGISTER_WRITE (R159, R178) -/

/-- The offsets of the staging registers among all byte addresses (section 11.2). -/
theorem ofAddr_staging_iff (a : Byte) :
    (Register.ofAddr a = .noteOutCtrl ↔ a.extractLsb' 2 6 = 0x11#6) ∧
    (Register.ofAddr a = .noteOutData0 ↔ a.extractLsb' 2 6 = 0x12#6) ∧
    (Register.ofAddr a = .noteOutData1 ↔ a.extractLsb' 2 6 = 0x13#6) := by
  revert a
  decide

/-- A register without a row of its own that is no staging register ignores a write (R178). -/
theorem takeWrite_ignored (s : State) (v : Word) {r : Register} (hrow : r.hasOwnWriteRow = false)
    (hctrl : r ≠ .noteOutCtrl) (hdata0 : r ≠ .noteOutData0) (hdata1 : r ≠ .noteOutData1) :
    s.takeWrite v r = s := by
  cases r
  case noteOutCtrl => exact absurd rfl hctrl
  case noteOutData0 => exact absurd rfl hdata0
  case noteOutData1 => exact absurd rfl hdata1
  case srcIndex | srcConfig | maskSetLo | maskSetHi | maskClrLo | maskClrHi | softRaise | softLower | cmd
    | linkCfg | cause | causeEn => exact absurd hrow (by decide)
  all_goals rfl

/-- Settles O19, by the register at the address. -/
theorem registerWriteStagesOrIsIgnored : Obligations.RegisterWriteStagesOrIsIgnored := by
  intro s addr v hr
  obtain ⟨hctrl, hdata0, hdata1⟩ := ofAddr_staging_iff addr
  rw [exec_registerWrite s addr v hr]
  refine ⟨fun h => ?ctrl, fun h => ?data0, fun h => ?data1, fun hc h0 h1 hwf => ?ignored⟩
  case ctrl =>
    rw [hctrl.2 h]
    rfl
  case data0 =>
    rw [hdata0.2 h]
    rfl
  case data1 =>
    rw [hdata1.2 h]
    rfl
  case ignored =>
    have hrow : (Register.ofAddr addr).hasOwnWriteRow = false := by simpa [Instr.wellFormed] using hwf
    rw [takeWrite_ignored s v hrow (mt hctrl.1 hc) (mt hdata0.1 h0) (mt hdata1.1 h1)]

end Sys2Proof.Machine
end

section
/-! PROOFS. Control requests (spec/10): the check that each request fails, the sources that a QUERY names, and what a
permitted MASK or UNMASK makes of its source (R169 to R173). -/

namespace Sys2Proof.Machine

/-- An expected CONTROL that the Reply Queue has room for is taken and accepted (R139, R140). -/
theorem exec_control_expected (s : State) (tag op first count : Byte) (hr : s.resetting = none)
    (hl : s.session.link = .active) (hroom : s.replies.length < 2) :
    exec (.control s.receiver.expected tag op first count) s =
      .next ((s.goodTaken.takeControl tag op first count).acceptSequenced s.receiver.expected) := by
  have hfits : decide (s.goodTaken.replies.length < Config.replyQueueSize) = true := decide_eq_true hroom
  calc exec (.control s.receiver.expected tag op first count) s
    _ = .next (s.goodFrame (.control s.receiver.expected tag op first count)) :=
      exec_frame s (.control s.receiver.expected tag op first count) hr rfl
    _ = .next (s.goodTaken.activeFrame (.control s.receiver.expected tag op first count)) :=
      congrArg _ (State.goodFrame_active hl _)
    _ = .next ((s.goodTaken.takeControl tag op first count).acceptSequenced s.receiver.expected) := by
      rw [State.activeFrame, hfits]
      exact congrArg _ (s.goodTaken.sequenced_expected fun t => t.takeControl tag op first count)

/-! ### The checks of a request (R170) -/

/-- The operation that REMOTE_INFO records for op 1 or 2 (R172). -/
def remoteOpOf (op : Byte) : RemoteOp := if op = 1 then .mask else .unmask

namespace State

variable {s : State} {tag op first count : Byte} {n : SourceId}

theorem takeControl_mask (h : op = 1 ∨ op = 2) :
    s.takeControl tag op first count = s.controlMask tag first count (remoteOpOf op) := by
  rcases h with rfl | rfl <;> rfl

theorem takeControl_query : s.takeControl tag 3 first count = s.controlQuery tag first count := rfl

theorem takeControl_other (hmask : ¬(op = 1 ∨ op = 2)) (hquery : op ≠ 3) :
    s.takeControl tag op first count = s.answer tag .badRequest [] := by
  unfold takeControl
  split
  next h => exact absurd (.inl (BitVec.eq_of_toNat_eq h)) hmask
  next h => exact absurd (.inr (BitVec.eq_of_toNat_eq h)) hmask
  next h => exact absurd (BitVec.eq_of_toNat_eq h) hquery
  next => rfl

variable {remote : RemoteOp}

theorem controlMask_badCount (h : count ≠ 1) :
    s.controlMask tag first count remote = s.answer tag .badRequest [] := if_pos h

theorem controlMask_badSource (h : 40 ≤ first.toNat) :
    s.controlMask tag first 1 remote = s.answer tag .badSource [] := by
  rw [controlMask, if_neg (not_not.2 rfl), sourceOf_eq_none h]

theorem controlMask_notPermitted (hn : first.toNat = n.val) (h : (s.src n).remote = false) :
    s.controlMask tag first 1 remote = s.answer tag .notPermitted [] := by
  rw [controlMask, if_neg (not_not.2 rfl), sourceOf_eq_some hn]
  exact if_neg (Bool.eq_false_iff.1 h)

theorem controlMask_permitted (hn : first.toNat = n.val) (h : (s.src n).remote = true) :
    s.controlMask tag first 1 remote = s.remoteMask tag n remote := by
  rw [controlMask, if_neg (not_not.2 rfl), sourceOf_eq_some hn]
  exact if_pos h

theorem controlQuery_badCount (h : count = 0 ∨ 9 ≤ count.toNat) :
    s.controlQuery tag first count = s.answer tag .badRequest [] := if_pos h

theorem controlQuery_badSource (hne : count ≠ 0) (hcount : count.toNat ≤ 8)
    (h : 40 < first.toNat + count.toNat) : s.controlQuery tag first count = s.answer tag .badSource [] := by
  rw [controlQuery, if_neg (not_or.2 ⟨hne, by omega⟩), if_pos h]

end State

/-- Settles O49: each request that fails a check is answered with the result of that check, and accepted as any
expected frame is. -/
theorem controlThatFailsACheckIsAnsweredAlone : Obligations.ControlThatFailsACheckIsAnsweredAlone := by
  intro s tag op first count result hr hl hroom mask hfails
  have htake : s.goodTaken.takeControl tag op first count = s.goodTaken.answer tag result [] := by
    rcases hfails with ⟨hmask, hquery, rfl⟩ | ⟨hmask, hcount, rfl⟩ | ⟨rfl, hcount, rfl⟩ | ⟨hmask, rfl, hfirst, rfl⟩ |
      ⟨rfl, hne, hcount, hend, rfl⟩ | ⟨hmask, rfl, ⟨n, hn, hremote⟩, rfl⟩
    · exact State.takeControl_other hmask hquery
    · exact (State.takeControl_mask hmask).trans (State.controlMask_badCount hcount)
    · exact State.takeControl_query.trans (State.controlQuery_badCount hcount)
    · exact (State.takeControl_mask hmask).trans (State.controlMask_badSource hfirst)
    · exact State.takeControl_query.trans (State.controlQuery_badSource hne hcount hend)
    · exact (State.takeControl_mask hmask).trans (State.controlMask_notPermitted (s := s.goodTaken) hn hremote)
  rw [exec_control_expected s tag op first count hr hl hroom, htake, State.answer_eq]
  rfl

/-! ### The sources that a QUERY names (R173) -/

/-- The sources of the `count` numbers from `first` on, in source order. -/
def sourceRange (first count : Nat) : List SourceId :=
  allSources.filter fun n => first ≤ n.val ∧ n.val < first + count

/-- A range that ends by source 39 holds every number from `first` on, each once and in increasing order. -/
theorem map_val_sourceRange {first count : Nat} (h : first + count ≤ 40) :
    (sourceRange first count).map Fin.val = List.range' first count := by
  have hsorted : ((sourceRange first count).map Fin.val).SortedLT :=
    (((List.pairwise_lt_finRange 40).filter _).map Fin.val fun _ _ hlt => hlt).sortedLT
  refine hsorted.eq_of_mem_iff (List.sortedLT_range' first count one_ne_zero) fun i => ?_
  simp only [sourceRange, List.mem_map, List.mem_filter, mem_allSources, true_and, decide_eq_true_eq,
    List.mem_range'_1]
  constructor
  · rintro ⟨n, hn, rfl⟩
    exact hn
  · intro hi
    exact ⟨⟨i, by omega⟩, hi, rfl⟩

theorem length_sourceRange {first count : Nat} (h : first + count ≤ 40) :
    (sourceRange first count).length = count := by
  rw [← List.length_map (f := Fin.val), map_val_sourceRange h, List.length_range']

theorem val_getElem_sourceRange {first count : Nat} (h : first + count ≤ 40) {i : Nat}
    (hi : i < (sourceRange first count).length) : (sourceRange first count)[i].val = first + i := by
  have hval := List.getElem_of_eq (map_val_sourceRange h) (i := i) (by rwa [List.length_map])
  rwa [List.getElem_map, List.getElem_range'_1] at hval

/-- A QUERY in range is answered with its sources as they stand. -/
theorem State.controlQuery_inRange {s : State} {tag first count : Byte} (hne : count ≠ 0)
    (hcount : count.toNat ≤ 8) (h : first.toNat + count.toNat ≤ 40) :
    s.controlQuery tag first count =
      s.answer tag .ok ((sourceRange first.toNat count.toNat).map s.capture) := by
  rw [controlQuery, if_neg (not_or.2 ⟨hne, by omega⟩), if_neg (Nat.not_lt.2 h), sourceRange]

/-- Settles O51: the records are those of the sources of the range, which the arrival of the frame leaves as they
were. -/
theorem queryCapturesARunOfSources : Obligations.QueryCapturesARunOfSources := by
  intro s tag first count hr hl hroom hne hcount hend
  refine ⟨(sourceRange first.toNat count.toNat).map s.capture, ?length, fun i hi => ?record, ?exec⟩
  case length => rw [List.length_map, length_sourceRange hend]
  case record =>
    rw [List.getElem_map]
    exact ⟨val_getElem_sourceRange hend _, rfl, rfl, rfl, rfl, rfl⟩
  case exec =>
    rw [exec_control_expected s tag 3 first count hr hl hroom, State.takeControl_query,
      State.controlQuery_inRange hne hcount hend, State.answer_eq]
    rfl

/-! ### A permitted MASK or UNMASK (R171, R172) -/

namespace State

/-- The local mask request that a remote operation is taken as (R171). -/
def maskRequest (s : State) (n : SourceId) (remote : RemoteOp) : State :=
  if remote = .mask then s.maskSet n else s.maskClear n

variable (s : State) (n : SourceId) (remote : RemoteOp)

theorem maskRequest_sameSide : SameSide s (s.maskRequest n remote) :=
  SameSide.ite (SameSide.maskSet s n) (SameSide.maskClear s n)

theorem maskSet_cause : (s.maskSet n).regs.cause = s.regs.cause :=
  (apply_ite (fun t : State => t.regs.cause) _ _ _).trans (ite_self _)

theorem maskClear_cause : (s.maskClear n).regs.cause = s.regs.cause := by
  rw [maskClear_eq]
  dsimp only
  split
  · rw [checked_regs]
  · rfl

/-- A mask request sets no cause flag. -/
theorem maskRequest_cause : (s.maskRequest n remote).regs.cause = s.regs.cause := by
  unfold maskRequest
  split
  · exact s.maskSet_cause n
  · exact s.maskClear_cause n

theorem maskSet_goodTaken : s.goodTaken.maskSet n = (s.maskSet n).goodTaken := by
  rw [maskSet_eq, maskSet_eq, apply_ite goodTaken]
  rfl

theorem reevaluate_goodTaken (resent : Bool) :
    s.goodTaken.reevaluate n resent = (s.reevaluate n resent).goodTaken := by
  rw [reevaluate, reevaluate, apply_ite goodTaken]
  rfl

theorem maskClear_goodTaken : s.goodTaken.maskClear n = (s.maskClear n).goodTaken := by
  unfold maskClear
  dsimp only
  rw [apply_ite goodTaken, ← reevaluate_goodTaken]
  rfl

/-- A mask request does not touch the Link Receiver: it may come before the frame is taken off the line. -/
theorem maskRequest_goodTaken : s.goodTaken.maskRequest n remote = (s.maskRequest n remote).goodTaken := by
  unfold maskRequest
  rw [maskSet_goodTaken, maskClear_goodTaken, apply_ite goodTaken]

/-- The mask request, then the flag, the record in REMOTE_INFO, the reply and the acceptance of the frame
(R140, R171, R172). -/
theorem remoteMask_accepted (tag : Byte) (k : SeqNum) :
    (s.goodTaken.remoteMask tag n remote).acceptSequenced k =
      (let u := s.maskRequest n remote
      { u with
        replies := s.replies ++ [{ tag := tag, result := .ok, records := [u.capture n] }]
        receiver := receiverAfter k
        arbiter := s.receivedArbiter k
        regs := { u.regs with cause := s.regs.cause ||| 0x20#8, remote := { source := n, op := remote } } }) := by
  have hside := s.maskRequest_sameSide n remote
  have hmask : (if remote = .mask then s.goodTaken.maskSet n else s.goodTaken.maskClear n) =
      (s.maskRequest n remote).goodTaken := s.maskRequest_goodTaken n remote
  have hcause := s.maskRequest_cause n remote
  rw [receivedArbiter, ← hside.arbiter, ← hside.replies, ← hcause, remoteMask, hmask]
  generalize s.maskRequest n remote = u
  simp only [raiseFlag_eq, flagMask_eq, answer_eq]
  rfl

end State

/-- Settles O50, by the op: the local mask set request is the outcome as stated, and the local mask clear request
is the one of `maskClear_eq`. -/
theorem remoteMaskIsTakenAndAnswered : Obligations.RemoteMaskIsTakenAndAnswered := by
  intro s tag op first n hr hl hroom hn hremote hop
  rw [exec_control_expected s tag op first 1 hr hl hroom, State.takeControl_mask hop,
    State.controlMask_permitted (s := s.goodTaken) hn hremote, State.remoteMask_accepted]
  refine ⟨_, rfl, ?_⟩
  rcases hop with rfl | rfl
  case inl => rfl
  case inr =>
    have hclear : s.maskRequest n (remoteOpOf 2) = s.maskClear n := rfl
    rw [hclear, State.maskClear_eq]
    rfl

end Sys2Proof.Machine
end

section
/-! PROOFS. The device reset (spec/11, section 11.7): the reset state, what enters it, and the commands while a reset
is in effect (R188 to R190). -/

namespace Sys2Proof.Machine

/-! ### The state after reset (R190) -/

namespace State

theorem reset_atReset : State.reset.AtReset := {}

/-- Every line of the state after reset is as a reset leaves it (R9). -/
theorem reset_line (l : LineId) : State.reset.line l = Line.reset false := by simp [State.reset, State.line]

theorem reset_lineLaw : State.reset.LineLaw :=
  (lineLaw_iff _).2 fun l => by
    rw [reset_line]
    exact Line.lawful_reset _ _ _

theorem reset_boundsLaw : State.reset.BoundsLaw := ⟨by decide, by decide, nofun, nofun⟩

end State

/-- Settles O56: the laws of the link from the blocks at reset, those of the sources and slots by their contents. -/
theorem lawsHoldAfterReset : Obligations.LawsHoldAfterReset := by
  have hreset := State.reset_atReset
  obtain ⟨hplace, hentry, hmessage⟩ := (tableLaw_iff _).1 hreset.contents.table
  exact
    { cfg := by decide
      bounds := State.reset_boundsLaw
      line := State.reset_lineLaw
      session := hreset.sessionLaw
      tx := hreset.txLaw
      assembly := hreset.assemblyLaw
      window := hreset.windowLaw
      slot := (slotLaw_iff _).2 hreset.contents.slots
      place := hplace
      entry := hentry
      message := hmessage
      frame := hreset.contents.frame
      reset := ⟨fun _ => rfl, nofun⟩ }

/-- Settles O3: the defined offsets by the values of section 11.2, the others by `ofAddr_undefined`. -/
theorem registersReadTheirResetValues : Obligations.RegistersReadTheirResetValues :=
  ⟨rfl, rfl, rfl, rfl, rfl, rfl, rfl, by decide,
    fun a ha => congrArg State.reset.readRegister (ofAddr_undefined a ha), rfl, rfl⟩

/-! ### Entry to a reset (R188 to R190) -/

theorem exec_deviceReset (s : State) (op : Byte) (h : s.resetting = none) :
    exec (.deviceReset op) s = .next (s.enterReset .command).ready :=
  congrArg _ (s.onBus_none _ (fun u => u.enterReset .command) h)

/-- Settles O4: RST_N and POWER_UP enter the reset in every state, DEVICE_RESET as its write is taken. -/
theorem resetPutsEveryBlockAtItsResetValue : Obligations.ResetPutsEveryBlockAtItsResetValue :=
  fun s op => ⟨rfl, rfl, exec_deviceReset s op⟩

/-! ### Commands while a reset is in effect (R178, R188, R190) -/

/-- A command that is an access of the local bus goes to the bus as that access. -/
theorem exec_of_access_some {c : Instr} {a : Access} (h : c.access = some a) (s : State) :
    ∃ take, exec c s = .next (s.onBus a take) := by
  cases c with
  | srcIndexWrite | srcConfigWrite | maskSetLo | maskSetHi | maskClrLo | maskClrHi | softRaise | softLower
  | forceIdle | tableClear | noteSend | notePop | noteFlush | linkEnable | linkDisable | linkRestart
  | statsClear | deviceReset | unknownCommand | linkCfgWrite | linkStatusRead | linkFaultRead | causeWrite
  | causeEnWrite | registerWrite =>
    cases h
    exact ⟨_, rfl⟩
  | _ => cases h

/-- Every other command but a line change, the resets and the end of reset is an event that a reset holds off. -/
theorem exec_of_access_none {c : Instr} (h : c.access = none) (hrst : c ≠ .rstN) (hpower : c ≠ .powerUp)
    (hend : c ≠ .resetEnd) (hline : ∀ l v, c ≠ .observedLineChange l v) (s : State) :
    ∃ take, exec c s = .next (s.unlessReset take) := by
  cases c with
  | rstN => exact absurd rfl hrst
  | powerUp => exact absurd rfl hpower
  | resetEnd => exact absurd rfl hend
  | observedLineChange l v => exact absurd rfl (hline l v)
  | stabilityIntervalExpiry | character | characterGap | lineBreak | hello | ack | nak | complete | note
  | control | frameBoundary | holdoffExpiry | acknowledgmentTimerExpiry | greetingIntervalExpiry
  | greetTimeout | restartDelayExpiry => exact ⟨_, rfl⟩
  | _ => cases h

/-- During a reset a line change reaches the pin alone. -/
theorem exec_observedLineChange_held (s : State) (l : LineId) (v : Bool) (h : s.resetting ≠ none) :
    exec (.observedLineChange l v) s = .next (s.setLine l { s.line l with pin := v }) :=
  congrArg _ (if_pos (Option.isSome_iff_ne_none.2 h))

/-- Settles O6: what goes to the bus waits there, and what is an event is not taken. -/
theorem resetHoldsTheCommands : Obligations.ResetHoldsTheCommands := by
  refine fun s hr => ⟨fun c a ha => ?access, fun c ha hrst hpower hend hline => ?event, fun l v => ?line⟩
  case access =>
    obtain ⟨take, hexec⟩ := exec_of_access_some ha s
    rw [hexec, s.onBus_some a take hr]
  case event =>
    obtain ⟨take, hexec⟩ := exec_of_access_none ha hrst hpower hend hline s
    rw [hexec, s.unlessReset_some take hr]
  case line => exact exec_observedLineChange_held s l v hr

end Sys2Proof.Machine
end

section
/-! PROOFS. The Register Window's own registers and commands (spec/11): which command an access is (R178, R180),
STATS_CLEAR, LINK_CFG, the two reads that change state, CAUSE and CAUSE_EN (R121, R182 to R187). -/

namespace Sys2Proof.Machine

/-! ### Which command an access is (R178, R180) -/

/-- The command of a code names the CMD write of that code and operand. -/
theorem access_commandOfCode (code op : Byte) :
    (commandOfCode code op).access = some (.write 0x30#8 (cmdWord code op)) := by
  have hcode {k : Byte} (h : code.toNat = k.toNat) : cmdWord k op = cmdWord code op := by
    rw [BitVec.eq_of_toNat_eq h]
  unfold commandOfCode
  split
  case h_11 => rfl
  all_goals exact congrArg (fun w => some (Access.write 0x30#8 w)) (hcode (by assumption))

/-- The command that a write is names a write that is the same command. -/
theorem access_commandOfWrite (addr : Byte) (v : Word) :
    ∃ b, (commandOfWrite addr v).access = some b ∧ b.command = some (commandOfWrite addr v) := by
  cases hr : Register.ofAddr addr
  case cmd =>
    have hcmd : commandOfWrite addr v = commandOfCode (cmdCode v) (cmdOperand v) := by
      simp only [commandOfWrite, hr]
    rw [hcmd]
    exact ⟨_, access_commandOfCode _ _, Laws.BusAccess.command_of_code _ _⟩
  case srcIndex | srcConfig | maskSetLo | maskSetHi | maskClrLo | maskClrHi | softRaise | softLower
    | linkCfg | cause | causeEn =>
    simp only [commandOfWrite, hr]
    exact ⟨_, rfl, rfl⟩
  all_goals
    have hother : commandOfWrite addr v = .registerWrite addr v := by simp only [commandOfWrite, hr]
    exact ⟨.write addr v, by rw [hother]; rfl, rfl⟩

/-- The command that an access is names an access that is the same command. -/
theorem access_of_command {c : Instr} {a : Access} (h : a.command = some c) :
    ∃ b, c.access = some b ∧ b.command = some c := by
  cases a with
  | write addr v =>
    obtain rfl : commandOfWrite addr v = c := Option.some.inj h
    exact access_commandOfWrite addr v
  | read addr =>
    cases hr : Register.ofAddr addr
    case linkStatus =>
      obtain rfl : Instr.linkStatusRead = c := by simpa [Access.command, hr] using h
      exact ⟨_, rfl, rfl⟩
    case linkFault =>
      obtain rfl : Instr.linkFaultRead = c := by simpa [Access.command, hr] using h
      exact ⟨_, rfl, rfl⟩
    all_goals simp [Access.command, hr] at h

/-- A write to a register with a row of its own is the command of its offset. -/
theorem command_write_of_offset {a b : Byte} (h : a &&& 0xFC#8 = b) (v : Word)
    (hrow : (Register.ofAddr b).hasOwnWriteRow = true) :
    Access.command (.write a v) = some (commandOfWrite b v) := by
  subst h
  rw [ofAddr_aligned] at hrow
  simp only [Access.command, commandOfWrite, ofAddr_aligned]
  cases hr : Register.ofAddr a
  case srcIndex | srcConfig | maskSetLo | maskSetHi | maskClrLo | maskClrHi | softRaise | softLower | cmd
    | linkCfg | cause | causeEn => rfl
  all_goals
    rw [hr] at hrow
    cases hrow

/-- The offsets of the registers whose write is a row of its own (section 11.2). -/
theorem offset_mem_of_hasOwnWriteRow (a : Byte) (h : (Register.ofAddr a).hasOwnWriteRow = true) :
    a &&& 0xFC#8 ∈
      ([0x04, 0x08, 0x18, 0x1C, 0x20, 0x24, 0x28, 0x2C, 0x30, 0x34, 0x5C, 0x60] : List Byte) := by
  revert a
  decide

theorem command_read_of_offset {a b : Byte} (h : a &&& 0xFC#8 = b) :
    Access.command (.read a) = Access.command (.read b) := by
  subst h
  simp only [Access.command, ofAddr_aligned]

theorem command_read_none (a : Byte) (hstatus : a &&& 0xFC#8 ≠ 0x38#8) (hfault : a &&& 0xFC#8 ≠ 0x40#8) :
    Access.command (.read a) = none := by
  cases hr : Register.ofAddr a
  case linkStatus => exact absurd (offset_of_linkStatus a hr) hstatus
  case linkFault => exact absurd (offset_of_linkFault a hr) hfault
  all_goals simp only [Access.command, hr]

/-- Settles O30: what an access does is `exec_access_command`, and which command it is depends on its offset alone. -/
theorem accessDoesWhatItsCommandDoes : Obligations.AccessDoesWhatItsCommandDoes := by
  refine ⟨fun c a s hr hc => exec_access_command s a c hr hc, fun c a hc => access_of_command hc, fun a v => ?_⟩
  intro offset
  have hrow {b : Byte} (hb : (Register.ofAddr b).hasOwnWriteRow = true) (h : offset = b) :
      Access.command (.write a v) = some (commandOfWrite b v) := command_write_of_offset h v hb
  exact ⟨hrow rfl, hrow rfl, hrow rfl, hrow rfl, hrow rfl, hrow rfl, hrow rfl, hrow rfl, hrow rfl, hrow rfl,
    hrow rfl, hrow rfl,
    fun h => Laws.BusAccess.other_register a v
      (by simpa [Instr.wellFormed] using mt (offset_mem_of_hasOwnWriteRow a) h),
    command_read_of_offset, command_read_of_offset, command_read_none a⟩

/-! ### Codes without a command (R180) -/

/-- A code of no command is refused with BAD_VALUE. -/
theorem State.command_unknown (s : State) {code : Byte} (op : Byte) (h : code = 0 ∨ 0x0B ≤ code.toNat) :
    s.command code op = s.refuseCommand code := by
  have hnat : code.toNat = 0 ∨ 0x0B ≤ code.toNat := h.imp_left (congrArg BitVec.toNat)
  unfold State.command
  split
  case h_11 => rfl
  all_goals omega

/-- Settles O24: the refusal is the effect of a code of no command, and the codes are those of `commandOfCode`. -/
theorem unknownCommandCodesAreRefused : Obligations.UnknownCommandCodesAreRefused := by
  refine fun s code op hr => ⟨fun hcode => ?refused, fun v hv hop => ?known⟩
  case refused =>
    rw [exec_unknownCommand s code op hr, s.command_unknown op hcode]
    exact congrArg _ (s.refuse_complete_eq .unknown _ .badValue)
  case known =>
    subst hv hop
    rfl

/-! ### Statistics counters (R186, R187) -/

theorem exec_statsClear (s : State) (op : Byte) (h : s.resetting = none) :
    exec (.statsClear op) s = .next s.statsClear.ready :=
  congrArg _ (s.onBus_none _ State.statsClear h)

theorem Stats.get_zero (c : Counter) : Stats.zero.get c = 0 := by cases c <;> rfl

theorem saturate32_toNat {v : Word} {k : Nat} (h : v.toNat + k < 2 ^ 32) :
    (saturate32 v k).toNat = v.toNat + k := by
  rw [saturate32, if_pos h, BitVec.toNat_ofNat, Nat.mod_eq_of_lt h]

theorem saturate32_eq_max {v : Word} {k : Nat} (h : 2 ^ 32 ≤ v.toNat + k) :
    saturate32 v k = 0xFFFFFFFF#32 := if_neg (Nat.not_lt.2 h)

/-- Settles O23: the counters become those of `Stats.zero`, and `saturate32` counts below its largest value. -/
theorem statsClearZeroesTheCountersAlone : Obligations.StatsClearZeroesTheCountersAlone :=
  fun s op hr => ⟨_, exec_statsClear s op hr, Stats.get_zero, rfl, fun _ _ => ⟨saturate32_toNat, saturate32_eq_max⟩⟩

/-! ### LINK_CFG (R182) -/

theorem Rate.code_ofCode (c : BitVec 2) : (ofCode c).code = c := by
  revert c
  decide

/-- The fields of LINK_CFG and the bits between them, each as its lowest bit and its width (section 11.3). -/
def linkCfgFields : List (Nat × Nat) := [(21, 11), (20, 1), (16, 4), (8, 8), (4, 4), (2, 2), (0, 2)]

/-- A field that a mask keeps whole. -/
theorem field_kept {n start len : Nat} {x mask : BitVec n} (h : mask.extractLsb' start len = BitVec.allOnes len) :
    (x &&& mask).extractLsb' start len = x.extractLsb' start len := by
  rw [BitVec.extractLsb'_and, h, BitVec.and_allOnes]

/-- A field that a mask cuts whole. -/
theorem field_cut {n start len : Nat} {x mask : BitVec n} (h : mask.extractLsb' start len = 0) :
    (x &&& mask).extractLsb' start len = 0 := by
  rw [BitVec.extractLsb'_and, h]
  exact BitVec.and_zero

/-- LINK_CFG reads back as it was written, but for the bits that are unused. -/
theorem LinkCfg.word_ofWord (v : Word) : (LinkCfg.ofWord v).word = v &&& 0x001FFFF3#32 := by
  obtain ⟨top, auto, retries, tack, window, gap, rate⟩ := linkCfgWord_fields (LinkCfg.ofWord v)
  have hfields : ∀ f ∈ linkCfgFields,
      (LinkCfg.ofWord v).word.extractLsb' f.1 f.2 = (v &&& 0x001FFFF3#32).extractLsb' f.1 f.2 := by
    simp only [linkCfgFields, List.forall_mem_cons, List.not_mem_nil, false_imp_iff, implies_true, and_true]
    exact ⟨top.trans (field_cut (by decide)).symm,
      ((field_one_eq_iff _ v 20).2 auto).trans (field_kept (by decide)).symm,
      retries.trans (field_kept (by decide)).symm, tack.trans (field_kept (by decide)).symm,
      window.trans (field_kept (by decide)).symm, gap.trans (field_cut (by decide)).symm,
      (rate.trans (Rate.code_ofCode _)).trans (field_kept (by decide)).symm⟩
  have hwords := (and_mask_eq_iff (BitVec.allOnes 32) linkCfgFields (by decide) _ _).2 hfields
  simpa only [BitVec.and_allOnes] using hwords

/-- The values that LINK_CFG may not hold. -/
theorem LinkCfg.valid_iff (c : LinkCfg) :
    c.valid = true ↔ ¬(c.window = 0 ∨ 9 ≤ c.window.toNat ∨ c.tack = 0 ∨ c.retries = 0) := by
  have hzero : c.window = 0 ↔ c.window.toNat = 0 := BitVec.toNat_inj.symm
  simp only [LinkCfg.valid, Bool.and_eq_true, decide_eq_true_iff, bne_iff_ne, hzero, not_or, Nat.not_le,
    and_assoc, Nat.lt_succ_iff, Nat.one_le_iff_ne_zero, Ne]

namespace State

variable {s : State}

theorem writeLinkCfg_busy (v : Word) (h : s.session.link ≠ .disabled) :
    s.writeLinkCfg v = s.refuse .linkCfg 0 .linkBusy := if_pos h

theorem writeLinkCfg_bad {v : Word} (h : s.session.link = .disabled) (hv : ¬(LinkCfg.ofWord v).valid = true) :
    s.writeLinkCfg v = s.refuse .linkCfg 0 .badValue :=
  (if_neg (not_not.2 h)).trans (if_neg hv)

theorem writeLinkCfg_taken {v : Word} (h : s.session.link = .disabled) (hv : (LinkCfg.ofWord v).valid = true) :
    s.writeLinkCfg v = s.setRegs { s.regs with linkCfg := LinkCfg.ofWord v } :=
  (if_neg (not_not.2 h)).trans (if_pos hv)

end State

/-- Settles O25, in the order of R182: the link state is decided first, then the values. -/
theorem linkCfgIsWrittenInDisabledAlone : Obligations.LinkCfgIsWrittenInDisabledAlone := by
  intro s v hr bad
  have hvalid : (LinkCfg.ofWord v).valid = true ↔ ¬bad := LinkCfg.valid_iff (LinkCfg.ofWord v)
  rw [exec_linkCfgWrite s v hr]
  refine ⟨fun hl => ?busy, fun hl hbad => ?bad, fun hl hgood => ?taken⟩
  case busy =>
    rw [State.writeLinkCfg_busy v hl]
    rfl
  case bad =>
    rw [State.writeLinkCfg_bad hl fun h => hvalid.1 h hbad]
    rfl
  case taken =>
    rw [State.writeLinkCfg_taken hl (hvalid.2 hgood)]
    exact ⟨rfl, LinkCfg.word_ofWord v⟩

/-! ### LINK_STATUS and LINK_FAULT (R121, R183) -/

theorem exec_linkStatusRead (s : State) (h : s.resetting = none) :
    exec .linkStatusRead s = .next (s.takeRead .linkStatus).ready :=
  congrArg _ (s.onBus_none _ (fun u => u.takeRead .linkStatus) h)

theorem exec_linkFaultRead (s : State) (h : s.resetting = none) :
    exec .linkFaultRead s = .next (s.takeRead .linkFault).ready :=
  congrArg _ (s.onBus_none _ (fun u => u.takeRead .linkFault) h)

/-- LINK_STATUS (section 11.3, R183). -/
theorem linkStatusWord_fields (s : State) :
    s.linkStatusWord.extractLsb' 0 3 = s.session.link.code ∧ s.linkStatusWord.getLsbD 3 = false ∧
    s.linkStatusWord.extractLsb' 24 8 = 0 ∧ s.linkStatusWord.extractLsb' 4 4 = s.shownWindow ∧
    s.linkStatusWord.extractLsb' 8 4 = BitVec.ofNat 4 s.window.records.length ∧
    s.linkStatusWord.extractLsb' 12 6 = BitVec.ofNat 6 s.queueDepth ∧
    s.linkStatusWord.extractLsb' 18 6 = BitVec.ofNat 6 s.delivered.length := by
  refine ⟨?_, bit_of_field ?_, ?top, ?_, ?_, ?_, ?_⟩
  all_goals repeat refine field_above (by decide) ?_
  case top => exact BitVec.extractLsb'_eq_self
  all_goals exact field_lowest

/-- A list without repeats names at most the 40 sources. -/
theorem length_le_of_nodup {ns : List SourceId} (h : ns.Nodup) : ns.length ≤ 40 := by
  simpa using h.length_le_card

namespace State

variable {s : State}

theorem Inv.records_length_le (h : s.Inv) : s.window.records.length ≤ Config.maxWindow := by
  obtain ⟨_, hrecords, _⟩ := h.window
  obtain ⟨_, _, _, _, _, _, hagreed, _⟩ := h.session
  exact hrecords.trans hagreed

theorem Inv.messages_length_le (h : s.Inv) : s.queue.messages.length ≤ 40 := by
  obtain ⟨hqueued, _⟩ := h.place
  simpa [queuedSources] using length_le_of_nodup hqueued

theorem Inv.delivered_length_le (h : s.Inv) : s.delivered.length ≤ 40 := by
  obtain ⟨_, _, hdelivered, _⟩ := h.place
  exact length_le_of_nodup hdelivered

end State

/-- Settles O26: the fields are those of the layout, and under the laws each count fits its field. -/
theorem readsThatChangeState : Obligations.ReadsThatChangeState := by
  intro s hr
  obtain ⟨link, bit3, top, agreed, records, depth, delivered⟩ := linkStatusWord_fields s
  refine ⟨rfl, ⟨s.linkStatusWord, link, bit3, top, agreed, fun hinv => ?counts, ?status⟩, ?fault⟩
  case counts =>
    exact ⟨field_toNat records (hinv.records_length_le.trans_lt (by decide)),
      field_toNat depth (hinv.messages_length_le.trans_lt (by decide)),
      field_toNat delivered (hinv.delivered_length_le.trans_lt (by decide))⟩
  case status => exact exec_linkStatusRead s hr
  case fault => exact exec_linkFaultRead s hr

/-! ### CAUSE, CAUSE_EN and IRQ_OUT_N (R184, R185) -/

theorem exec_causeWrite (s : State) (v : Word) (h : s.resetting = none) :
    exec (.causeWrite v) s = .next (s.writeCause v).ready :=
  congrArg _ (s.onBus_none _ (fun u => u.writeCause v) h)

/-- A flag stays set unless its bit is written as 1. -/
theorem writeCause_bit (s : State) (v : Word) {i : Nat} (hi : i < 8) :
    (s.writeCause v).regs.cause.getLsbD i = (s.regs.cause.getLsbD i && !v.getLsbD i) := by
  show (s.regs.cause &&& ~~~(v.extractLsb' 0 8)).getLsbD i = _
  simp [hi]

/-- IRQ_OUT_N is low exactly while a set flag is enabled. -/
theorem irqOutN_eq_false_iff (s : State) :
    s.irqOutN = false ↔ ∃ i, i < 8 ∧ s.regs.cause.getLsbD i = true ∧ s.regs.causeEn.getLsbD i = true := by
  have hzero : s.regs.cause &&& s.regs.causeEn = 0 ↔
      ∀ i, i < 8 → ¬(s.regs.cause.getLsbD i = true ∧ s.regs.causeEn.getLsbD i = true) := by
    constructor
    · intro h i _ hboth
      have hbit := congrArg (·.getLsbD i) h
      simp [hboth] at hbit
    · intro h
      refine BitVec.eq_of_getLsbD_eq fun i hi => ?_
      simpa using h i hi
  rw [State.irqOutN, decide_eq_false_iff_not, hzero]
  push Not
  rfl

/-- Settles O27: each write is its register's alone, and IRQ_OUT_N is `irqOutN_eq_false_iff`. -/
theorem causeFlagsDriveTheInterrupt : Obligations.CauseFlagsDriveTheInterrupt :=
  fun s v hr =>
    ⟨⟨_, exec_causeWrite s v hr, fun _ hi => writeCause_bit s v hi, rfl⟩, exec_causeEnWrite s v hr,
      irqOutN_eq_false_iff s⟩

end Sys2Proof.Machine
end

section
/-! PROOFS. The queue of commands and the model's clock (assumption log 4): a step takes the front command off the queue
or counts a period on the clock, and no command touches either. `State.schedule` reads both from a state, and every
operation of the model leaves that view as it was. -/

namespace Sys2Proof.Machine

/-! ### A step -/

theorem step_of_pending_cons {s : State} {c : Instr} {rest : List Instr} (h : s.pending = c :: rest) :
    step s = exec c (s.popPending rest) := by
  simp only [step, h]

theorem step_of_pending_nil {s : State} (h : s.pending = []) : step s = .next s.tick := by
  simp only [step, h]

/-- Settles O1: the two cases of the queue, with what each update writes. -/
theorem stepRunsTheFrontCommand : Obligations.StepRunsTheFrontCommand :=
  fun _ => ⟨fun _ _ h => step_of_pending_cons h, fun h => step_of_pending_nil h⟩

namespace State

/-- The queue of commands and the model's clock. -/
def schedule (s : State) : List Instr × Nat := (s.pending, s.now)

theorem schedule_eq_iff {s t : State} : t.schedule = s.schedule ↔ t.pending = s.pending ∧ t.now = s.now :=
  Prod.mk_inj

theorem schedule_ite {s t u : State} {c : Prop} [Decidable c] (ht : t.schedule = s.schedule)
    (hu : u.schedule = s.schedule) : (if c then t else u).schedule = s.schedule := by
  split
  · exact ht
  · exact hu

theorem schedule_foldl {α : Type} {f : State → α → State} (h : ∀ t a, (f t a).schedule = t.schedule)
    (as : List α) (s : State) : (as.foldl f s).schedule = s.schedule := by
  induction as generalizing s with
  | nil => rfl
  | cons a as ih => exact (ih (f s a)).trans (h s a)

/-! ### The named updates -/

@[simp] theorem setSrc_schedule (s : State) (n : SourceId) (v : Source) : (s.setSrc n v).schedule = s.schedule := rfl
@[simp] theorem setDelivered_schedule (s : State) (v : List SourceId) : (s.setDelivered v).schedule = s.schedule := rfl
@[simp] theorem setArbiter_schedule (s : State) (v : Arbiter) : (s.setArbiter v).schedule = s.schedule := rfl
@[simp] theorem setTx_schedule (s : State) (v : Option Item) : (s.setTx v).schedule = s.schedule := rfl
@[simp] theorem setWindow_schedule (s : State) (v : Window) : (s.setWindow v).schedule = s.schedule := rfl
@[simp] theorem setReceiver_schedule (s : State) (v : Receiver) : (s.setReceiver v).schedule = s.schedule := rfl
@[simp] theorem setSession_schedule (s : State) (v : Session) : (s.setSession v).schedule = s.schedule := rfl
@[simp] theorem setReplies_schedule (s : State) (v : List Reply) : (s.setReplies v).schedule = s.schedule := rfl
@[simp] theorem setRegs_schedule (s : State) (v : Registers) : (s.setRegs v).schedule = s.schedule := rfl
@[simp] theorem setQueue_schedule (s : State) (v : EventQueue) : (s.setQueue v).schedule = s.schedule := rfl
@[simp] theorem setSources_schedule (s : State) (v : Vector Source 40) :
    (s.setSources v).schedule = s.schedule := rfl
@[simp] theorem raiseFlag_schedule (s : State) (f : CauseFlag) : (s.raiseFlag f).schedule = s.schedule := rfl
@[simp] theorem countN_schedule (s : State) (k : Nat) (c : Counter) : (s.countN k c).schedule = s.schedule := rfl
@[simp] theorem count_schedule (s : State) (c : Counter) : (s.count c).schedule = s.schedule := rfl
@[simp] theorem refuse_schedule (s : State) (r : Request) (operand : BitVec 16) (reason : RefuseReason) :
    (s.refuse r operand reason).schedule = s.schedule := rfl
@[simp] theorem setLink_schedule (s : State) (l : Link) : (s.setLink l).schedule = s.schedule := rfl
@[simp] theorem enterSyncing_schedule (s : State) : s.enterSyncing.schedule = s.schedule :=
  (setLink_schedule _ _).trans (setSession_schedule s _)

/-! ### Reports -/

@[simp] theorem queueTail_schedule (s : State) (n : SourceId) (count : Byte) (overrun resent : Bool) :
    (s.queueTail n count overrun resent).schedule = s.schedule := rfl

@[simp] theorem queueFront_schedule (s : State) (n : SourceId) (count : Byte) (overrun : Bool) :
    (s.queueFront n count overrun).schedule = s.schedule := rfl

@[simp] theorem withdrawSource_schedule (s : State) (n : SourceId) :
    (s.withdrawSource n).schedule = s.schedule := rfl

theorem reevaluate_schedule (s : State) (n : SourceId) (resent : Bool) :
    (s.reevaluate n resent).schedule = s.schedule := schedule_ite (queueTail_schedule s n 1 false resent) rfl

theorem coalesce_schedule (s : State) (n : SourceId) : (s.coalesce n).schedule = s.schedule := by
  unfold coalesce
  cases s.messageOf n with
  | none => rfl
  | some m => exact schedule_ite rfl rfl

theorem countPending_schedule (s : State) (n : SourceId) : (s.countPending n).schedule = s.schedule :=
  schedule_ite rfl rfl

theorem edgeEvent_schedule (s : State) (n : SourceId) : (s.edgeEvent n).schedule = s.schedule := by
  refine schedule_ite ?_ rfl
  cases (s.src n).state with
  | idle => exact queueTail_schedule s n 1 false false
  | delivered => rfl
  | queued => exact coalesce_schedule s n
  | sent | holdoff => exact countPending_schedule s n

theorem levelChange_schedule (s : State) (n : SourceId) (asserted : Bool) :
    (s.levelChange n asserted).schedule = s.schedule := by
  refine schedule_ite ?_ rfl
  cases (s.src n).state with
  | idle => exact schedule_ite (queueTail_schedule s n 1 false false) rfl
  | queued => exact schedule_ite rfl (withdrawSource_schedule s n)
  | sent | delivered | holdoff => rfl

theorem reportAcceptance_schedule (s : State) (n : SourceId) (rising : Bool) :
    (s.reportAcceptance n rising).schedule = s.schedule := by
  unfold reportAcceptance
  cases (s.src n).sense with
  | levelHigh | levelLow => exact levelChange_schedule s n _
  | rising => exact schedule_ite (edgeEvent_schedule s n) rfl
  | falling => exact schedule_ite rfl (edgeEvent_schedule s n)
  | anyEdge => exact edgeEvent_schedule s n

/-! ### Lines and soft requests -/

theorem acceptLine_schedule (s : State) (l : LineId) : (s.acceptLine l).schedule = s.schedule :=
  schedule_ite rfl (reportAcceptance_schedule _ _ _)

theorem observe_schedule (s : State) (l : LineId) (level : Bool) : (s.observe l level).schedule = s.schedule :=
  schedule_ite rfl (schedule_ite (acceptLine_schedule _ l) (schedule_ite rfl rfl))

theorem intervalExpiry_schedule (s : State) (l : LineId) : (s.intervalExpiry l).schedule = s.schedule :=
  schedule_ite (acceptLine_schedule s l) rfl

theorem raiseSoft_schedule (s : State) (k : SoftId) : (s.raiseSoft k).schedule = s.schedule :=
  schedule_ite (schedule_ite rfl (levelChange_schedule _ _ _)) (edgeEvent_schedule s _)

theorem lowerSoft_schedule (s : State) (k : SoftId) : (s.lowerSoft k).schedule = s.schedule :=
  schedule_ite (schedule_ite (levelChange_schedule _ _ _) rfl) rfl

theorem softRequest_schedule (s : State) (r : Request) (v : Word) (take : SoftId → State)
    (h : ∀ k, (take k).schedule = s.schedule) : (s.softRequest r v take).schedule = s.schedule := by
  unfold softRequest
  split
  · rfl
  · split
    · exact h _
    · rfl

/-! ### Source Table -/

theorem maskSet_schedule (s : State) (n : SourceId) : (s.maskSet n).schedule = s.schedule :=
  have hmasked := setSrc_schedule s n { s.src n with mask := true, pending := 0, pendOvr := false }
  schedule_ite ((withdrawSource_schedule _ n).trans hmasked) hmasked

theorem maskClear_schedule (s : State) (n : SourceId) : (s.maskClear n).schedule = s.schedule :=
  schedule_ite (reevaluate_schedule _ n false) rfl

theorem maskSetAll_schedule (s : State) (ns : List SourceId) : (s.maskSetAll ns).schedule = s.schedule :=
  schedule_foldl maskSet_schedule ns s

theorem maskClearAll_schedule (s : State) (ns : List SourceId) : (s.maskClearAll ns).schedule = s.schedule :=
  (schedule_foldl (fun t n => reevaluate_schedule t n false) _ _).trans
    (schedule_foldl (fun t n => setSrc_schedule t n _) ns s)

theorem writeSrcIndex_schedule (s : State) (v : Word) : (s.writeSrcIndex v).schedule = s.schedule := by
  unfold writeSrcIndex
  cases sourceOf v.toNat with
  | none | some n => rfl

theorem recomputeIfChanged_schedule (s : State) (n : SourceId) (before : Source) :
    (s.recomputeIfChanged n before).schedule = s.schedule := by
  unfold recomputeIfChanged
  split
  · exact schedule_ite rfl rfl
  · rfl

theorem takeConfig_schedule (s : State) (n : SourceId) (w : ConfigWrite) (sense : Sense) :
    (s.takeConfig n w sense).schedule = s.schedule :=
  have hrecomputed := recomputeIfChanged_schedule (s.setSrc n (w.apply sense (s.src n))) n (s.src n)
  schedule_ite ((reevaluate_schedule _ n false).trans hrecomputed) hrecomputed

theorem writeSrcConfig_schedule (s : State) (v : Word) : (s.writeSrcConfig v).schedule = s.schedule := by
  refine schedule_ite rfl ?_
  cases (ConfigWrite.ofWord v).checkedSense s.regs.srcIndex with
  | none => rfl
  | some sense => exact takeConfig_schedule s _ _ sense

theorem forceIdle_schedule (s : State) (op : Byte) : (s.forceIdle op).schedule = s.schedule := by
  unfold forceIdle
  cases sourceOf op.toNat with
  | none => rfl
  | some n =>
    change (s.forceIdleSource n op).schedule = s.schedule
    unfold forceIdleSource
    cases (s.src n).state with
    | idle | queued | sent => rfl
    | delivered | holdoff => exact reevaluate_schedule _ n false

theorem tableClear_schedule (s : State) : s.tableClear.schedule = s.schedule :=
  schedule_ite (refuse_schedule s _ _ _)
    ((setQueue_schedule _ _).trans ((setSources_schedule _ _).trans (countN_schedule s _ _)))

theorem flushPending_schedule (s : State) (n : SourceId) : (s.flushPending n).schedule = s.schedule :=
  have hquiet := setSrc_schedule s n { s.src n with pending := 0, pendOvr := false, state := .idle }
  schedule_ite ((queueTail_schedule _ n _ _ false).trans hquiet) hquiet

theorem holdoffExpiry_schedule (s : State) (n : SourceId) : (s.holdoffExpiry n).schedule = s.schedule :=
  schedule_ite (schedule_ite (reevaluate_schedule _ n false) (flushPending_schedule _ n)) rfl

theorem ackSource_schedule (s : State) (n : SourceId) : (s.ackSource n).schedule = s.schedule :=
  schedule_ite rfl (schedule_ite rfl (flushPending_schedule s n))

theorem releaseSource_schedule (s : State) (n : SourceId) : (s.releaseSource n).schedule = s.schedule :=
  schedule_ite rfl (reevaluate_schedule _ n false)

theorem abandonSource_schedule (s : State) (n : SourceId) : (s.abandonSource n).schedule = s.schedule :=
  reevaluate_schedule _ n true

theorem requeueSource_schedule (s : State) (n : SourceId) (count : Byte) (overrun : Bool) :
    (s.requeueSource n count overrun).schedule = s.schedule := by
  have hquiet := setSrc_schedule s n { s.src n with pending := 0, pendOvr := false, state := .idle }
  have hfront (c : Byte) (b : Bool) := (queueFront_schedule _ n c b).trans hquiet
  have hcounted := (count_schedule _ .eventsWithdrawn).trans hquiet
  exact schedule_ite (schedule_ite (hfront 1 false) hcounted)
    (schedule_ite hcounted (schedule_ite ((raiseFlag_schedule _ _).trans (hfront 255 true)) (hfront _ _)))

/-! ### Session Controller -/

theorem disposeRecord_schedule (s : State) (r : FrameRecord) : (s.disposeRecord r).schedule = s.schedule := by
  unfold disposeRecord
  cases r.body with
  | event m => exact requeueSource_schedule s m.source m.count m.overrun
  | note k n => rfl
  | reply _ => rfl

theorem disposeRecords_schedule (s : State) (rs : List FrameRecord) :
    (s.disposeRecords rs).schedule = s.schedule := by
  induction rs with
  | nil => rfl
  | cons r rs ih => exact (disposeRecord_schedule _ r).trans ih

theorem endSession_schedule (s : State) : s.endSession.schedule = s.schedule := by
  simp only [endSession, raiseFlag_schedule, setSession_schedule, setReceiver_schedule, setArbiter_schedule,
    setReplies_schedule, schedule_foldl abandonSource_schedule, setDelivered_schedule, disposeRecords_schedule,
    setWindow_schedule]

theorem abandonGreeting_schedule (s : State) : s.abandonGreeting.schedule = s.schedule := by
  rw [abandonGreeting_eq]
  rfl

theorem leaveLink_schedule (s : State) : s.leaveLink.schedule = s.schedule := by
  unfold leaveLink
  cases s.session.link with
  | disabled => rfl
  | syncing | failed => exact setSession_schedule s _
  | greeting => exact abandonGreeting_schedule s
  | active => exact endSession_schedule s

theorem enterFailed_schedule (s : State) (cause : FaultCause) : (s.enterFailed cause).schedule = s.schedule := by
  rw [enterFailed_eq]
  exact leaveLink_schedule s

theorem startSession_schedule (s : State) : s.startSession.schedule = s.schedule := by
  rw [startSession_eq]
  rfl

@[simp] theorem recordHello_schedule (s : State) (window epoch : Byte) :
    (s.recordHello window epoch).schedule = s.schedule := rfl

theorem greetHello_schedule (s : State) (heard : Bool) (revision window epoch role : Byte) :
    (s.greetHello heard revision window epoch role).schedule = s.schedule :=
  schedule_ite
    (schedule_ite ((startSession_schedule _).trans (recordHello_schedule s window epoch))
      (recordHello_schedule s window epoch))
    (enterFailed_schedule s _)

theorem beginSync_schedule (s : State) : s.beginSync.schedule = s.schedule := schedule_ite rfl rfl

theorem linkEnable_schedule (s : State) : s.linkEnable.schedule = s.schedule :=
  schedule_ite ((beginSync_schedule _).trans (enterSyncing_schedule s)) rfl

theorem linkDisable_schedule (s : State) : s.linkDisable.schedule = s.schedule :=
  schedule_ite rfl
    ((setTx_schedule _ _).trans ((setLink_schedule s.leaveLink .disabled).trans (leaveLink_schedule s)))

theorem linkRestart_schedule (s : State) : s.linkRestart.schedule = s.schedule :=
  schedule_ite rfl
    ((setTx_schedule _ _).trans ((enterSyncing_schedule s.leaveLink).trans (leaveLink_schedule s)))

theorem enterGreeting_schedule (s : State) : s.enterGreeting.schedule = s.schedule := by
  rw [enterGreeting_eq]
  rfl

theorem countSync_schedule (s : State) (v : Option Byte) : (s.countSync v).schedule = s.schedule :=
  schedule_ite (schedule_ite (enterGreeting_schedule s) (setSession_schedule s _)) (setSession_schedule s _)

theorem takeBreak_schedule (s : State) : s.takeBreak.schedule = s.schedule := by
  unfold takeBreak
  cases s.session.link with
  | disabled | failed => rfl
  | syncing => exact setSession_schedule s _
  | greeting => exact (enterSyncing_schedule _).trans (abandonGreeting_schedule s)
  | active => exact enterFailed_schedule s _

theorem greetIntervalExpiry_schedule (s : State) : s.greetIntervalExpiry.schedule = s.schedule :=
  schedule_ite rfl rfl

theorem greetTimeoutExpiry_schedule (s : State) : s.greetTimeoutExpiry.schedule = s.schedule :=
  schedule_ite (enterFailed_schedule s _) rfl

theorem restartDelayExpiry_schedule (s : State) : s.restartDelayExpiry.schedule = s.schedule :=
  schedule_ite
    ((beginSync_schedule _).trans ((enterSyncing_schedule s.leaveLink).trans (leaveLink_schedule s))) rfl

/-! ### Retransmit Window and Completions -/

theorem ackRecord_schedule (s : State) (r : FrameRecord) : (s.ackRecord r).schedule = s.schedule := by
  unfold ackRecord
  cases r.body with
  | event m => exact ackSource_schedule s m.source
  | note k n => rfl
  | reply _ => rfl

theorem removeAcked_schedule (s : State) (k : Nat) : (s.removeAcked k).schedule = s.schedule :=
  schedule_foldl ackRecord_schedule _ _

theorem takeAck_schedule (s : State) (n : SeqNum) : (s.takeAck n).schedule = s.schedule :=
  schedule_ite (removeAcked_schedule s _) rfl

theorem countRetry_schedule (s : State) (resend : Option SeqNum) :
    (s.countRetry resend).schedule = s.schedule :=
  schedule_ite (enterFailed_schedule _ _) rfl

theorem takeNak_schedule (s : State) (n : SeqNum) : (s.takeNak n).schedule = s.schedule :=
  schedule_ite ((countRetry_schedule _ _).trans (removeAcked_schedule s _)) rfl

theorem ackTimerExpiry_schedule (s : State) : s.ackTimerExpiry.schedule = s.schedule :=
  schedule_ite (countRetry_schedule s _) rfl

theorem unmatchedCompletion_schedule (s : State) (vector : Byte) (oldest : Bool) (reason : UnmatchedReason) :
    (s.unmatchedCompletion vector oldest reason).schedule = s.schedule := by
  rw [unmatchedCompletion_eq]
  rfl

theorem takeCompletion_schedule (s : State) (oldest : Bool) (vector : Byte) :
    (s.takeCompletion oldest vector).schedule = s.schedule := by
  refine schedule_ite (schedule_ite (unmatchedCompletion_schedule s _ _ _) ?asOldest)
    (schedule_ite (unmatchedCompletion_schedule s _ _ _)
      ((schedule_foldl releaseSource_schedule _ _).trans (setDelivered_schedule s _)))
  case asOldest =>
    cases s.delivered with
    | nil => exact unmatchedCompletion_schedule s _ _ _
    | cons n rest => exact (releaseSource_schedule _ n).trans (setDelivered_schedule s rest)

/-! ### Notes and Control requests -/

theorem noteSend_schedule (s : State) : s.noteSend.schedule = s.schedule := by
  unfold noteSend
  cases s.notes.freeSlot with
  | none => rfl
  | some k => exact schedule_ite rfl rfl

theorem notePop_schedule (s : State) : s.notePop.schedule = s.schedule := by
  unfold notePop
  split <;> rfl

theorem remoteMask_schedule (s : State) (tag : Byte) (n : SourceId) (op : RemoteOp) :
    (s.remoteMask tag n op).schedule = s.schedule := by
  simp only [remoteMask, answer, setReplies_schedule, setRegs_schedule, raiseFlag_schedule]
  exact schedule_ite (maskSet_schedule s n) (maskClear_schedule s n)

theorem controlMask_schedule (s : State) (tag first count : Byte) (op : RemoteOp) :
    (s.controlMask tag first count op).schedule = s.schedule := by
  refine schedule_ite rfl ?_
  cases sourceOf first.toNat with
  | none => rfl
  | some n => exact schedule_ite (remoteMask_schedule s tag n op) rfl

theorem takeControl_schedule (s : State) (tag op first count : Byte) :
    (s.takeControl tag op first count).schedule = s.schedule := by
  unfold takeControl
  split
  · exact controlMask_schedule s tag first count .mask
  · exact controlMask_schedule s tag first count .unmask
  · exact schedule_ite rfl (schedule_ite rfl rfl)
  · rfl

/-! ### Frames received and frame boundaries -/

theorem sequenced_schedule (s : State) (n : SeqNum) (room : Bool) (consume : State → State)
    (h : (consume s).schedule = s.schedule) : (s.sequenced n room consume).schedule = s.schedule := by
  unfold sequenced
  cases classify s.receiver.expected n with
  | expected => exact schedule_ite h rfl
  | duplicate => rfl
  | ahead => exact schedule_ite rfl rfl

theorem activeFrame_schedule (s : State) (f : RxFrame) : (s.activeFrame f).schedule = s.schedule := by
  cases f with
  | hello heard revision window epoch role => exact schedule_ite rfl (enterFailed_schedule s _)
  | ack n => exact takeAck_schedule s n
  | nak n => exact takeNak_schedule s n
  | complete n oldest vector => exact sequenced_schedule s n _ _ (takeCompletion_schedule s oldest vector)
  | note n tag data => exact sequenced_schedule s n _ _ rfl
  | control n tag op first count => exact sequenced_schedule s n _ _ (takeControl_schedule s tag op first count)

theorem greetingFrame_schedule (s : State) (f : RxFrame) : (s.greetingFrame f).schedule = s.schedule := by
  cases f with
  | hello heard revision window epoch role => exact greetHello_schedule s heard revision window epoch role
  | ack | nak | complete | note | control => rfl

theorem goodFrame_schedule (s : State) (f : RxFrame) : (s.goodFrame f).schedule = s.schedule := by
  unfold goodFrame
  cases s.session.link with
  | disabled | syncing | failed => rfl
  | greeting => exact greetingFrame_schedule _ f
  | active => exact activeFrame_schedule _ f

theorem badFrame_schedule (s : State) : s.badFrame.schedule = s.schedule := by
  unfold badFrame
  cases s.session.link with
  | disabled | syncing | greeting | failed => rfl
  | active => exact schedule_ite (enterFailed_schedule _ _) rfl

theorem collect_schedule (s : State) (c : Collecting) (v : Option Byte) :
    (s.collect c v).schedule = s.schedule := by
  refine schedule_ite ?lengthByte (schedule_ite ?lastByte rfl)
  case lengthByte =>
    cases v with
    | none => exact badFrame_schedule s
    | some b => exact schedule_ite rfl (badFrame_schedule s)
  case lastByte =>
    cases judge (c.add v) with
    | none => exact badFrame_schedule s
    | some f => exact goodFrame_schedule s f

theorem assemble_schedule (s : State) (v : Option Byte) : (s.assemble v).schedule = s.schedule := by
  unfold assemble
  cases s.receiver.assembly with
  | none => exact schedule_ite rfl rfl
  | some c => exact collect_schedule s c v

theorem takeCharacter_schedule (s : State) (v : Option Byte) : (s.takeCharacter v).schedule = s.schedule := by
  unfold takeCharacter
  cases s.session.link with
  | disabled | failed => rfl
  | syncing => exact countSync_schedule s v
  | greeting | active => exact assemble_schedule s v

theorem send_schedule (s : State) (c : Choice) : (s.send c).schedule = s.schedule :=
  have ⟨hpending, hnow, _⟩ := s.send_outside c
  schedule_eq_iff.2 ⟨hpending, hnow⟩

theorem endItem_schedule (s : State) : s.endItem.schedule = s.schedule := by
  unfold endItem
  split
  · exact schedule_ite rfl rfl
  · rfl

theorem boundary_schedule (s : State) : s.boundary.schedule = s.schedule :=
  (send_schedule _ _).trans (endItem_schedule s)

/-! ### The Register Window and the local bus -/

theorem takeRead_schedule (s : State) (r : Register) : (s.takeRead r).schedule = s.schedule := by
  unfold takeRead afterRead
  split <;> rfl

theorem writeLinkCfg_schedule (s : State) (v : Word) : (s.writeLinkCfg v).schedule = s.schedule :=
  schedule_ite rfl (schedule_ite rfl rfl)

/-- A CMD write, a device reset included: the queue and the clock are outside the blocks (R188). -/
theorem command_schedule (s : State) (code op : Byte) : (s.command code op).schedule = s.schedule := by
  unfold command
  split
  · exact forceIdle_schedule s op
  · exact tableClear_schedule s
  · exact noteSend_schedule s
  · exact notePop_schedule s
  · rfl
  · exact linkEnable_schedule s
  · exact linkDisable_schedule s
  · exact linkRestart_schedule s
  · rfl
  · rfl
  · rfl

theorem takeWrite_schedule (s : State) (v : Word) (r : Register) : (s.takeWrite v r).schedule = s.schedule := by
  cases r with
  | srcIndex => exact writeSrcIndex_schedule s v
  | srcConfig => exact writeSrcConfig_schedule s v
  | maskSetLo | maskSetHi => exact maskSetAll_schedule s _
  | maskClrLo | maskClrHi => exact maskClearAll_schedule s _
  | softRaise => exact softRequest_schedule s _ v _ (raiseSoft_schedule s)
  | softLower => exact softRequest_schedule s _ v _ (lowerSoft_schedule s)
  | cmd => exact command_schedule s _ _
  | linkCfg => exact writeLinkCfg_schedule s v
  | _ => rfl

theorem takeAccess_schedule (s : State) (a : Access) : (s.takeAccess a).schedule = s.schedule := by
  cases a with
  | read addr => exact takeRead_schedule s _
  | write addr v => exact takeWrite_schedule s v _

theorem onBus_schedule (s : State) (a : Access) (take : State → State) (h : (take s).schedule = s.schedule) :
    (s.onBus a take).schedule = s.schedule := schedule_ite rfl h

theorem unlessReset_schedule (s : State) (f : State → State) (h : (f s).schedule = s.schedule) :
    (s.unlessReset f).schedule = s.schedule := schedule_ite rfl h

/-- The accesses that waited are taken at the end of a reset (R188). -/
theorem endReset_schedule (s : State) : s.endReset.schedule = s.schedule := by
  unfold endReset
  cases s.resetting with
  | none => rfl
  | some cause => exact schedule_foldl (fun t a => onBus_schedule t a _ (takeAccess_schedule t a)) _ _

end State

/-! ### Commands -/

open State in
/-- Every command has a next state, with the same queue and clock. -/
theorem exec_schedule (c : Instr) (s : State) : ∃ t, exec c s = .next t ∧ t.schedule = s.schedule := by
  cases c with
  | observedLineChange l level => exact ⟨_, rfl, schedule_ite rfl (observe_schedule s l level)⟩
  | stabilityIntervalExpiry l => exact ⟨_, rfl, unlessReset_schedule s _ (intervalExpiry_schedule s l)⟩
  | srcIndexWrite v => exact ⟨_, rfl, onBus_schedule s _ _ (writeSrcIndex_schedule s v)⟩
  | srcConfigWrite v => exact ⟨_, rfl, onBus_schedule s _ _ (writeSrcConfig_schedule s v)⟩
  | maskSetLo | maskSetHi => exact ⟨_, rfl, onBus_schedule s _ _ (maskSetAll_schedule s _)⟩
  | maskClrLo | maskClrHi => exact ⟨_, rfl, onBus_schedule s _ _ (maskClearAll_schedule s _)⟩
  | softRaise v => exact ⟨_, rfl, onBus_schedule s _ _ (takeWrite_schedule s v .softRaise)⟩
  | softLower v => exact ⟨_, rfl, onBus_schedule s _ _ (takeWrite_schedule s v .softLower)⟩
  | forceIdle op => exact ⟨_, rfl, onBus_schedule s _ _ (forceIdle_schedule s op)⟩
  | tableClear => exact ⟨_, rfl, onBus_schedule s _ _ (tableClear_schedule s)⟩
  | noteSend => exact ⟨_, rfl, onBus_schedule s _ _ (noteSend_schedule s)⟩
  | notePop => exact ⟨_, rfl, onBus_schedule s _ _ (notePop_schedule s)⟩
  | linkEnable => exact ⟨_, rfl, onBus_schedule s _ _ (linkEnable_schedule s)⟩
  | linkDisable => exact ⟨_, rfl, onBus_schedule s _ _ (linkDisable_schedule s)⟩
  | linkRestart => exact ⟨_, rfl, onBus_schedule s _ _ (linkRestart_schedule s)⟩
  | noteFlush | statsClear | deviceReset | causeWrite | causeEnWrite => exact ⟨_, rfl, onBus_schedule s _ _ rfl⟩
  | unknownCommand code op => exact ⟨_, rfl, onBus_schedule s _ _ (command_schedule s code op)⟩
  | linkCfgWrite v => exact ⟨_, rfl, onBus_schedule s _ _ (writeLinkCfg_schedule s v)⟩
  | linkStatusRead | linkFaultRead => exact ⟨_, rfl, onBus_schedule s _ _ (takeRead_schedule s _)⟩
  | registerWrite addr v => exact ⟨_, rfl, onBus_schedule s _ _ (takeWrite_schedule s v _)⟩
  | rstN | powerUp => exact ⟨_, rfl, rfl⟩
  | resetEnd => exact ⟨_, rfl, endReset_schedule s⟩
  | character => exact ⟨_, rfl, unlessReset_schedule s _ (takeCharacter_schedule s _)⟩
  | characterGap => exact ⟨_, rfl, unlessReset_schedule s _ (schedule_ite (badFrame_schedule s) rfl)⟩
  | lineBreak => exact ⟨_, rfl, unlessReset_schedule s _ (takeBreak_schedule _)⟩
  | hello | ack | nak | complete | control =>
    exact ⟨_, rfl, unlessReset_schedule s _ (goodFrame_schedule s _)⟩
  | note =>
    exact ⟨_, rfl, unlessReset_schedule s _ (schedule_ite (goodFrame_schedule s _) (badFrame_schedule s))⟩
  | frameBoundary => exact ⟨_, rfl, unlessReset_schedule s _ (boundary_schedule s)⟩
  | holdoffExpiry n => exact ⟨_, rfl, unlessReset_schedule s _ (holdoffExpiry_schedule s n)⟩
  | acknowledgmentTimerExpiry => exact ⟨_, rfl, unlessReset_schedule s _ (ackTimerExpiry_schedule s)⟩
  | greetingIntervalExpiry => exact ⟨_, rfl, unlessReset_schedule s _ (greetIntervalExpiry_schedule s)⟩
  | greetTimeout => exact ⟨_, rfl, unlessReset_schedule s _ (greetTimeoutExpiry_schedule s)⟩
  | restartDelayExpiry => exact ⟨_, rfl, unlessReset_schedule s _ (restartDelayExpiry_schedule s)⟩

/-- Settles O2: each operation that a command is made of leaves the queue and the clock as they were. -/
theorem everyCommandHasANextState : Obligations.EveryCommandHasANextState := by
  intro c s
  obtain ⟨t, hexec, hkept⟩ := exec_schedule c s
  exact ⟨t, hexec, State.schedule_eq_iff.1 hkept⟩

end Sys2Proof.Machine
end
